-- ==== Sys2Proof/Word.lean ====
section
/-! DEFINITION. The word types of PS2DEC. Every value of the block is unsigned (00_scope.md R8). -/

namespace Sys2Proof

/-- One byte of the frame, an unsigned value 0 to 255 (R7, R25). -/
abbrev Byte := BitVec 8

/-- A frame carried as the 64-bit vector `frame[63:0]` (R7): bit `i` of the vector is the absolute bit `i`. -/
abbrev Frame := BitVec 64

/-- The D-pad field `dp`, absolute bits 43:40 (R40, R42). -/
abbrev Nibble := BitVec 4

/-- The value of the `len` port (R19, R50). -/
abbrev Len := BitVec 4

end Sys2Proof
end

