-- ==== Sys2Proof/Config.lean ====
section
/-! DEFINITION. What an implementation fixes: the parameters of 00_scope.md R6, all hardwired, and the free values
of the data outputs that the spec leaves unspecified (93_implementation_defined.md U6). -/

namespace Sys2Proof.Config

/-! ### The layout and the remap constants (R6) -/

/-- R6: `FRAME_BYTES`. -/
abbrev frameBytes : Nat := 8
/-- R6: `FRAME_BITS`. -/
abbrev frameBits : Nat := 64
/-- R6: `AXIS_RY_BYTE`. -/
abbrev rightStickYByte : Nat := 1
/-- R6: `AXIS_RX_BYTE`, which is also `STEER_BYTE`. -/
abbrev rightStickXByte : Nat := 2
/-- R6: `AXIS_LX_BYTE`. -/
abbrev leftStickXByte : Nat := 3
/-- R6: `AXIS_LY_BYTE`, which is also `THRUST_BYTE`. -/
abbrev leftStickYByte : Nat := 4
/-- R6: the lowest bit of the D-pad nibble, absolute bits 43:40. -/
abbrev dpadBit : Nat := 40
/-- R6: Triangle. -/
abbrev triangleBit : Nat := 44
/-- R6: Circle. -/
abbrev circleBit : Nat := 45
/-- R6: Cross. -/
abbrev crossBit : Nat := 46
/-- R6: Square. -/
abbrev squareBit : Nat := 47
/-- R6: L2. -/
abbrev l2Bit : Nat := 48
/-- R6: R2. -/
abbrev r2Bit : Nat := 49
/-- R6: L1. -/
abbrev l1Bit : Nat := 50
/-- R6: R1. -/
abbrev r1Bit : Nat := 51
/-- R6: Select. -/
abbrev selectBit : Nat := 52
/-- R6: Start. -/
abbrev startBit : Nat := 53
/-- R6: LeftStickClick. -/
abbrev leftStickClickBit : Nat := 54
/-- R6: RightStickClick. -/
abbrev rightStickClickBit : Nat := 55
/-- R6: `CENTER`. -/
abbrev center : Nat := 128
/-- R6: `HIGH_BASE`. -/
abbrev highBase : Nat := 129
/-- R6: `OUT_MAX`. -/
abbrev outMax : Nat := 255
/-- R6: `LOW_SPAN`, the low-side divisor. -/
abbrev lowSpan : Nat := 128
/-- R6: `HIGH_SPAN`, the high-side divisor. -/
abbrev highSpan : Nat := 126

/-! ### Free values (log 3)
One uninterpreted function per data output port. The argument counts the steps that left the ports unspecified
(R108 on `IncompleteFrame`, R109, R21), so no two such steps of one run need agree. Nothing can be proved of any value.
The functions are one set for all instances: safe within one run, unsafe between two instances with equal counts. -/

/-- DESIGN CHOICE (log 3): the unspecified value of the `right_stick_y` port (U6). -/
opaque freeRightStickY : Nat → BitVec 8
/-- DESIGN CHOICE (log 3): the unspecified value of the `right_stick_x` port (U6). -/
opaque freeRightStickX : Nat → BitVec 8
/-- DESIGN CHOICE (log 3): the unspecified value of the `left_stick_x` port (U6). -/
opaque freeLeftStickX : Nat → BitVec 8
/-- DESIGN CHOICE (log 3): the unspecified value of the `left_stick_y` port (U6). -/
opaque freeLeftStickY : Nat → BitVec 8
/-- DESIGN CHOICE (log 3): the unspecified value of the `dpad` port (U6). -/
opaque freeDpad : Nat → BitVec 3
/-- DESIGN CHOICE (log 3): the unspecified value of the `face` port (U6). -/
opaque freeFace : Nat → BitVec 4
/-- DESIGN CHOICE (log 3): the unspecified value of the `shoulder` port (U6). -/
opaque freeShoulder : Nat → BitVec 4
/-- DESIGN CHOICE (log 3): the unspecified value of the `menu` port (U6). -/
opaque freeMenu : Nat → BitVec 4
/-- DESIGN CHOICE (log 3): the unspecified value of the `thrust_mag` port (U6). -/
opaque freeThrustMag : Nat → BitVec 8
/-- DESIGN CHOICE (log 3): the unspecified value of the `thrust_dir` port (U6). -/
opaque freeThrustDir : Nat → BitVec 1
/-- DESIGN CHOICE (log 3): the unspecified value of the `steer_mag` port (U6). -/
opaque freeSteerMag : Nat → BitVec 8
/-- DESIGN CHOICE (log 3): the unspecified value of the `steer_dir` port (U6). -/
opaque freeSteerDir : Nat → BitVec 2

end Sys2Proof.Config
end

