-- ==== Sys2Proof/Syntax.lean ====
section
/-! DEFINITION. The enumerations and result records of PS2DEC, its 24 operations (30_encoding.md R52) and its
instructions: one constructor of `Instr` for each of the 49 rows of opcode_table.json. -/

namespace Sys2Proof

/-! ### Enumerations (00_scope.md R9) -/

/-- The five D-pad positions (R9, R42). -/
inductive Dpad where
  | up | down | left | right | idle
deriving DecidableEq, Repr

/-- The directions of thrust (R9, R93): there is no neutral one. -/
inductive ThrustDir where
  | forward | reverse
deriving DecidableEq, Repr

/-- The directions of steering (R9, R94). -/
inductive SteerDir where
  | straight | left | right
deriving DecidableEq, Repr

/-- The two branches of the remap (R9, R86). -/
inductive Side where
  | low | high
deriving DecidableEq, Repr

/-! ### Results (10_state.md R17, R18) -/

/-- `face_buttons` (R17), each independently on or off. -/
structure FaceButtons where
  triangle : Bool
  circle : Bool
  cross : Bool
  square : Bool
deriving DecidableEq, Repr

/-- `shoulder_buttons` (R17). -/
structure ShoulderButtons where
  l1 : Bool
  l2 : Bool
  r1 : Bool
  r2 : Bool
deriving DecidableEq, Repr

/-- `menu_buttons` (R17). -/
structure MenuButtons where
  select : Bool
  start : Bool
  leftStickClick : Bool
  rightStickClick : Bool
deriving DecidableEq, Repr

/-- The decoded snapshot of one frame (R17). -/
structure ControlState where
  rightStickY : Byte
  rightStickX : Byte
  leftStickX : Byte
  leftStickY : Byte
  dpad : Dpad
  face : FaceButtons
  shoulder : ShoulderButtons
  menu : MenuButtons
deriving DecidableEq, Repr

/-- The derived command (R18); a magnitude is an integer 0 to 255. -/
structure ActuatorCommand where
  thrustMagnitude : Byte
  thrustDirection : ThrustDir
  steerMagnitude : Byte
  steerDirection : SteerDir
deriving DecidableEq, Repr

/-- What one `SAMPLE` returns (R105, R120, R122): the pair of results, the error with the number of bytes delivered,
or nothing at all because the reader result is outside the contract. -/
inductive SampleResult where
  | decoded (cs : ControlState) (ac : ActuatorCommand)
  | incompleteFrame (n : Nat)
  | refused
deriving DecidableEq, Repr

/-! ### Operations and instructions -/

/-- The closed list of operations (R52). A table row belongs to exactly one, its group (R53). -/
inductive Operation where
  | axisRY | axisRX | axisLX | axisLY
  | dpad
  | btnTriangle | btnCircle | btnCross | btnSquare
  | btnL2 | btnR2 | btnL1 | btnR1
  | btnSelect | btnStart | btnLStick | btnRStick
  | decode
  | remapSide | remapMag | remapThrust | remapSteer
  | actuate
  | sample
deriving DecidableEq, Repr

/-- One row of opcode_table.json with its operand: a frame `f` for the FRAME64 rows, the byte `raw` for the RAW8 rows
(a `.MID` row fixes it, so it has none), the `ControlState` for `ACTUATE` (R95), the frame or the length for the
`SAMPLE` rows (R105). -/
inductive Instr where
  | axisRY (f : Frame)
  | axisRX (f : Frame)
  | axisLX (f : Frame)
  | axisLY (f : Frame)
  | dpadN0 (f : Frame)
  | dpadN1 (f : Frame)
  | dpadN2 (f : Frame)
  | dpadN3 (f : Frame)
  | dpadN4 (f : Frame)
  | dpadN5 (f : Frame)
  | dpadN6 (f : Frame)
  | dpadN7 (f : Frame)
  | dpadN8 (f : Frame)
  | dpadN9 (f : Frame)
  | dpadNA (f : Frame)
  | dpadNB (f : Frame)
  | dpadNC (f : Frame)
  | dpadND (f : Frame)
  | dpadNE (f : Frame)
  | dpadNF (f : Frame)
  | btnTriangle (f : Frame)
  | btnCircle (f : Frame)
  | btnCross (f : Frame)
  | btnSquare (f : Frame)
  | btnL2 (f : Frame)
  | btnR2 (f : Frame)
  | btnL1 (f : Frame)
  | btnR1 (f : Frame)
  | btnSelect (f : Frame)
  | btnStart (f : Frame)
  | btnLStick (f : Frame)
  | btnRStick (f : Frame)
  | decode (f : Frame)
  | remapSideLow (raw : Byte)
  | remapSideMid
  | remapSideHigh (raw : Byte)
  | remapMagLow (raw : Byte)
  | remapMagMid
  | remapMagHigh (raw : Byte)
  | remapThrustLow (raw : Byte)
  | remapThrustMid
  | remapThrustHigh (raw : Byte)
  | remapSteerLow (raw : Byte)
  | remapSteerMid
  | remapSteerHigh (raw : Byte)
  | actuate (cs : ControlState)
  | sampleOk (f : Frame)
  | sampleIncomplete (len : Len)
  | sampleRefused (len : Len)
deriving DecidableEq, Repr

/-- The operation whose group a row belongs to (R53). -/
def opOf : Instr → Operation
  | .axisRY _ => .axisRY
  | .axisRX _ => .axisRX
  | .axisLX _ => .axisLX
  | .axisLY _ => .axisLY
  | .dpadN0 _ => .dpad
  | .dpadN1 _ => .dpad
  | .dpadN2 _ => .dpad
  | .dpadN3 _ => .dpad
  | .dpadN4 _ => .dpad
  | .dpadN5 _ => .dpad
  | .dpadN6 _ => .dpad
  | .dpadN7 _ => .dpad
  | .dpadN8 _ => .dpad
  | .dpadN9 _ => .dpad
  | .dpadNA _ => .dpad
  | .dpadNB _ => .dpad
  | .dpadNC _ => .dpad
  | .dpadND _ => .dpad
  | .dpadNE _ => .dpad
  | .dpadNF _ => .dpad
  | .btnTriangle _ => .btnTriangle
  | .btnCircle _ => .btnCircle
  | .btnCross _ => .btnCross
  | .btnSquare _ => .btnSquare
  | .btnL2 _ => .btnL2
  | .btnR2 _ => .btnR2
  | .btnL1 _ => .btnL1
  | .btnR1 _ => .btnR1
  | .btnSelect _ => .btnSelect
  | .btnStart _ => .btnStart
  | .btnLStick _ => .btnLStick
  | .btnRStick _ => .btnRStick
  | .decode _ => .decode
  | .remapSideLow _ => .remapSide
  | .remapSideMid => .remapSide
  | .remapSideHigh _ => .remapSide
  | .remapMagLow _ => .remapMag
  | .remapMagMid => .remapMag
  | .remapMagHigh _ => .remapMag
  | .remapThrustLow _ => .remapThrust
  | .remapThrustMid => .remapThrust
  | .remapThrustHigh _ => .remapThrust
  | .remapSteerLow _ => .remapSteer
  | .remapSteerMid => .remapSteer
  | .remapSteerHigh _ => .remapSteer
  | .actuate _ => .actuate
  | .sampleOk _ => .sample
  | .sampleIncomplete _ => .sample
  | .sampleRefused _ => .sample

end Sys2Proof
end

