-- ==== Sys2Proof/WellFormed.lean ====
section
/-! DEFINITION. The operation table as data (30_encoding.md R53), and which instructions are well formed. -/

namespace Sys2Proof

/-- The three formats of the table (R53): what value a row is tested on. -/
inductive Format where
  | frame64 | raw8 | len4
deriving DecidableEq, Repr

/-- A row's test (R53): it applies to a value `v` when `v AND mask` equals `pattern`, the table's `match`. -/
structure TableRow where
  format : Format
  mask : Nat
  pattern : Nat
  priority : Nat
deriving DecidableEq, Repr

/-- R53: "A row applies to a value v when (v AND mask) == match". -/
def TableRow.applies (r : TableRow) (v : Nat) : Bool := (v &&& r.mask) == r.pattern

/-- The row of opcode_table.json that a constructor stands for; it does not depend on the operand. -/
def tableRow : Instr → TableRow
  | .axisRY _ => ⟨.frame64, 0x0000000000000000, 0x0000000000000000, 0⟩
  | .axisRX _ => ⟨.frame64, 0x0000000000000000, 0x0000000000000000, 0⟩
  | .axisLX _ => ⟨.frame64, 0x0000000000000000, 0x0000000000000000, 0⟩
  | .axisLY _ => ⟨.frame64, 0x0000000000000000, 0x0000000000000000, 0⟩
  | .dpadN0 _ => ⟨.frame64, 0x00000F0000000000, 0x0000000000000000, 0⟩
  | .dpadN1 _ => ⟨.frame64, 0x00000F0000000000, 0x0000010000000000, 0⟩
  | .dpadN2 _ => ⟨.frame64, 0x00000F0000000000, 0x0000020000000000, 0⟩
  | .dpadN3 _ => ⟨.frame64, 0x00000F0000000000, 0x0000030000000000, 0⟩
  | .dpadN4 _ => ⟨.frame64, 0x00000F0000000000, 0x0000040000000000, 0⟩
  | .dpadN5 _ => ⟨.frame64, 0x00000F0000000000, 0x0000050000000000, 0⟩
  | .dpadN6 _ => ⟨.frame64, 0x00000F0000000000, 0x0000060000000000, 0⟩
  | .dpadN7 _ => ⟨.frame64, 0x00000F0000000000, 0x0000070000000000, 0⟩
  | .dpadN8 _ => ⟨.frame64, 0x00000F0000000000, 0x0000080000000000, 0⟩
  | .dpadN9 _ => ⟨.frame64, 0x00000F0000000000, 0x0000090000000000, 0⟩
  | .dpadNA _ => ⟨.frame64, 0x00000F0000000000, 0x00000A0000000000, 0⟩
  | .dpadNB _ => ⟨.frame64, 0x00000F0000000000, 0x00000B0000000000, 0⟩
  | .dpadNC _ => ⟨.frame64, 0x00000F0000000000, 0x00000C0000000000, 0⟩
  | .dpadND _ => ⟨.frame64, 0x00000F0000000000, 0x00000D0000000000, 0⟩
  | .dpadNE _ => ⟨.frame64, 0x00000F0000000000, 0x00000E0000000000, 0⟩
  | .dpadNF _ => ⟨.frame64, 0x00000F0000000000, 0x00000F0000000000, 0⟩
  | .btnTriangle _ => ⟨.frame64, 0x0000100000000000, 0x0000100000000000, 0⟩
  | .btnCircle _ => ⟨.frame64, 0x0000200000000000, 0x0000200000000000, 0⟩
  | .btnCross _ => ⟨.frame64, 0x0000400000000000, 0x0000400000000000, 0⟩
  | .btnSquare _ => ⟨.frame64, 0x0000800000000000, 0x0000800000000000, 0⟩
  | .btnL2 _ => ⟨.frame64, 0x0001000000000000, 0x0001000000000000, 0⟩
  | .btnR2 _ => ⟨.frame64, 0x0002000000000000, 0x0002000000000000, 0⟩
  | .btnL1 _ => ⟨.frame64, 0x0004000000000000, 0x0004000000000000, 0⟩
  | .btnR1 _ => ⟨.frame64, 0x0008000000000000, 0x0008000000000000, 0⟩
  | .btnSelect _ => ⟨.frame64, 0x0010000000000000, 0x0010000000000000, 0⟩
  | .btnStart _ => ⟨.frame64, 0x0020000000000000, 0x0020000000000000, 0⟩
  | .btnLStick _ => ⟨.frame64, 0x0040000000000000, 0x0040000000000000, 0⟩
  | .btnRStick _ => ⟨.frame64, 0x0080000000000000, 0x0080000000000000, 0⟩
  | .decode _ => ⟨.frame64, 0x0000000000000000, 0x0000000000000000, 0⟩
  | .remapSideLow _ => ⟨.raw8, 0x80, 0x00, 0⟩
  | .remapSideMid => ⟨.raw8, 0xFF, 0x80, 0⟩
  | .remapSideHigh _ => ⟨.raw8, 0x80, 0x80, 1⟩
  | .remapMagLow _ => ⟨.raw8, 0x80, 0x00, 0⟩
  | .remapMagMid => ⟨.raw8, 0xFF, 0x80, 0⟩
  | .remapMagHigh _ => ⟨.raw8, 0x80, 0x80, 1⟩
  | .remapThrustLow _ => ⟨.raw8, 0x80, 0x00, 0⟩
  | .remapThrustMid => ⟨.raw8, 0xFF, 0x80, 0⟩
  | .remapThrustHigh _ => ⟨.raw8, 0x80, 0x80, 1⟩
  | .remapSteerLow _ => ⟨.raw8, 0x80, 0x00, 0⟩
  | .remapSteerMid => ⟨.raw8, 0xFF, 0x80, 0⟩
  | .remapSteerHigh _ => ⟨.raw8, 0x80, 0x80, 1⟩
  | .actuate _ => ⟨.frame64, 0x0000000000000000, 0x0000000000000000, 0⟩
  | .sampleOk _ => ⟨.len4, 0xF, 0x8, 0⟩
  | .sampleIncomplete _ => ⟨.len4, 0x8, 0x0, 0⟩
  | .sampleRefused _ => ⟨.len4, 0x8, 0x8, 1⟩

/-- The rows of one operation's group (R53), in the table's order. -/
def rowsOf : Operation → List TableRow
  | .axisRY => [tableRow (.axisRY 0)]
  | .axisRX => [tableRow (.axisRX 0)]
  | .axisLX => [tableRow (.axisLX 0)]
  | .axisLY => [tableRow (.axisLY 0)]
  | .dpad =>
    [tableRow (.dpadN0 0), tableRow (.dpadN1 0), tableRow (.dpadN2 0), tableRow (.dpadN3 0),
     tableRow (.dpadN4 0), tableRow (.dpadN5 0), tableRow (.dpadN6 0), tableRow (.dpadN7 0),
     tableRow (.dpadN8 0), tableRow (.dpadN9 0), tableRow (.dpadNA 0), tableRow (.dpadNB 0),
     tableRow (.dpadNC 0), tableRow (.dpadND 0), tableRow (.dpadNE 0), tableRow (.dpadNF 0)]
  | .btnTriangle => [tableRow (.btnTriangle 0)]
  | .btnCircle => [tableRow (.btnCircle 0)]
  | .btnCross => [tableRow (.btnCross 0)]
  | .btnSquare => [tableRow (.btnSquare 0)]
  | .btnL2 => [tableRow (.btnL2 0)]
  | .btnR2 => [tableRow (.btnR2 0)]
  | .btnL1 => [tableRow (.btnL1 0)]
  | .btnR1 => [tableRow (.btnR1 0)]
  | .btnSelect => [tableRow (.btnSelect 0)]
  | .btnStart => [tableRow (.btnStart 0)]
  | .btnLStick => [tableRow (.btnLStick 0)]
  | .btnRStick => [tableRow (.btnRStick 0)]
  | .decode => [tableRow (.decode 0)]
  | .remapSide => [tableRow (.remapSideLow 0), tableRow .remapSideMid, tableRow (.remapSideHigh 0)]
  | .remapMag => [tableRow (.remapMagLow 0), tableRow .remapMagMid, tableRow (.remapMagHigh 0)]
  | .remapThrust => [tableRow (.remapThrustLow 0), tableRow .remapThrustMid, tableRow (.remapThrustHigh 0)]
  | .remapSteer => [tableRow (.remapSteerLow 0), tableRow .remapSteerMid, tableRow (.remapSteerHigh 0)]
  | .actuate => [⟨.frame64, 0x0000000000000000, 0x0000000000000000, 0⟩]
  | .sample => [tableRow (.sampleOk 0), tableRow (.sampleIncomplete 0), tableRow (.sampleRefused 0)]

/-- R53: among the rows of its group that apply to `v`, `r` is one that applies and has the lowest priority number. -/
def TableRow.wins (r : TableRow) (op : Operation) (v : Nat) : Bool :=
  r.applies v && (rowsOf op).all fun q => !(q.applies v) || r.priority ≤ q.priority

/-- Which operands a row may carry. An `AXIS`, `DECODE` or `ACTUATE` row applies to every frame (R53) and a `BTN`
operation is performed on every frame, its row applying when the result is true (R53, R66 to R77, log 8); a `DPAD` row
carries a frame whose nibble is the row's (R42); a `.LOW` or `.HIGH` row carries a byte of its range (R47); a `SAMPLE`
row carries a length of its range (R50). -/
def wellFormed : Instr → Bool
  | .axisRY _ => true
  | .axisRX _ => true
  | .axisLX _ => true
  | .axisLY _ => true
  | .dpadN0 f => f &&& 0x00000F0000000000#64 == 0x0000000000000000#64
  | .dpadN1 f => f &&& 0x00000F0000000000#64 == 0x0000010000000000#64
  | .dpadN2 f => f &&& 0x00000F0000000000#64 == 0x0000020000000000#64
  | .dpadN3 f => f &&& 0x00000F0000000000#64 == 0x0000030000000000#64
  | .dpadN4 f => f &&& 0x00000F0000000000#64 == 0x0000040000000000#64
  | .dpadN5 f => f &&& 0x00000F0000000000#64 == 0x0000050000000000#64
  | .dpadN6 f => f &&& 0x00000F0000000000#64 == 0x0000060000000000#64
  | .dpadN7 f => f &&& 0x00000F0000000000#64 == 0x0000070000000000#64
  | .dpadN8 f => f &&& 0x00000F0000000000#64 == 0x0000080000000000#64
  | .dpadN9 f => f &&& 0x00000F0000000000#64 == 0x0000090000000000#64
  | .dpadNA f => f &&& 0x00000F0000000000#64 == 0x00000A0000000000#64
  | .dpadNB f => f &&& 0x00000F0000000000#64 == 0x00000B0000000000#64
  | .dpadNC f => f &&& 0x00000F0000000000#64 == 0x00000C0000000000#64
  | .dpadND f => f &&& 0x00000F0000000000#64 == 0x00000D0000000000#64
  | .dpadNE f => f &&& 0x00000F0000000000#64 == 0x00000E0000000000#64
  | .dpadNF f => f &&& 0x00000F0000000000#64 == 0x00000F0000000000#64
  | .btnTriangle _ => true
  | .btnCircle _ => true
  | .btnCross _ => true
  | .btnSquare _ => true
  | .btnL2 _ => true
  | .btnR2 _ => true
  | .btnL1 _ => true
  | .btnR1 _ => true
  | .btnSelect _ => true
  | .btnStart _ => true
  | .btnLStick _ => true
  | .btnRStick _ => true
  | .decode _ => true
  | .remapSideLow raw => raw.toNat ≤ 127
  | .remapSideMid => true
  | .remapSideHigh raw => 129 ≤ raw.toNat
  | .remapMagLow raw => raw.toNat ≤ 127
  | .remapMagMid => true
  | .remapMagHigh raw => 129 ≤ raw.toNat
  | .remapThrustLow raw => raw.toNat ≤ 127
  | .remapThrustMid => true
  | .remapThrustHigh raw => 129 ≤ raw.toNat
  | .remapSteerLow raw => raw.toNat ≤ 127
  | .remapSteerMid => true
  | .remapSteerHigh raw => 129 ≤ raw.toNat
  | .actuate _ => true
  | .sampleOk _ => true
  | .sampleIncomplete len => len.toNat < 8
  | .sampleRefused len => 8 < len.toNat

/-- An instruction some input of the block performs. -/
abbrev WellFormed (i : Instr) : Prop := wellFormed i = true

end Sys2Proof
end

