-- ==== Sys2Proof/Decode.lean ====
section
/-! DEFINITION. The frame format (30_encoding.md R40 to R47), the decoder from it and the encoder into it, and the
decoder and encoder of the table's rows (R53). What this hardware decodes is the frame, not an instruction word. -/

namespace Sys2Proof

/-! ### Byte and bit positions (00_scope.md R7, 20_memory.md R26) -/

/-- `F.byte[k] = frame[8*k+7 : 8*k]` (R7). -/
def frameByte (f : Frame) (k : Nat) : Byte := f.extractLsb' (8 * k) 8

/-- `F.bit[i] = frame[i]` (R7); a button bit of 1 is true (R43). -/
def frameBit (f : Frame) (i : Nat) : Bool := f.getLsbD i

/-- The D-pad field, the low nibble of byte 5, absolute bits 43:40 (R40, R65). -/
def dpadNibble (f : Frame) : Nibble := f.extractLsb' Config.dpadBit 4

/-- The frame that a list of delivered bytes makes: byte `k` of the list is `frame[8*k+7 : 8*k]` (R19, R27); bytes not
delivered are 0 and bytes past the eighth have no place. -/
def frameOfBytes : List Byte → Frame
  | [] => 0
  | b :: bs => (frameOfBytes bs <<< 8) ||| b.setWidth 64

/-- The eight bytes of a frame in index order, the first delivered first (R27). -/
def bytesOfFrame (f : Frame) : List Byte := (List.range Config.frameBytes).map (frameByte f)

/-! ### The frame decoder's field values (40_frame_decoder.md) -/

/-- R61. -/
def axisRYValue (f : Frame) : Byte := frameByte f Config.rightStickYByte
/-- R62. -/
def axisRXValue (f : Frame) : Byte := frameByte f Config.rightStickXByte
/-- R63. -/
def axisLXValue (f : Frame) : Byte := frameByte f Config.leftStickXByte
/-- R64. -/
def axisLYValue (f : Frame) : Byte := frameByte f Config.leftStickYByte

/-- The D-pad value table with its silent default (R42, R65, R124). -/
def dpadOfNibble (n : Nibble) : Dpad :=
  if n = 0x0#4 then .up
  else if n = 0x2#4 then .right
  else if n = 0x4#4 then .down
  else if n = 0x6#4 then .left
  else .idle

/-- R65. -/
def dpadValue (f : Frame) : Dpad := dpadOfNibble (dpadNibble f)

/-- The face buttons, bits 44 to 47 (R66 to R69). -/
def faceValue (f : Frame) : FaceButtons :=
  { triangle := frameBit f Config.triangleBit
    circle := frameBit f Config.circleBit
    cross := frameBit f Config.crossBit
    square := frameBit f Config.squareBit }

/-- The shoulder buttons, bits 48 to 51: L2, R2, L1, R1 in that order (R70 to R73). -/
def shoulderValue (f : Frame) : ShoulderButtons :=
  { l2 := frameBit f Config.l2Bit
    r2 := frameBit f Config.r2Bit
    l1 := frameBit f Config.l1Bit
    r1 := frameBit f Config.r1Bit }

/-- The menu buttons, bits 52 to 55 (R74 to R77). -/
def menuValue (f : Frame) : MenuButtons :=
  { select := frameBit f Config.selectBit
    start := frameBit f Config.startBit
    leftStickClick := frameBit f Config.leftStickClickBit
    rightStickClick := frameBit f Config.rightStickClickBit }

/-- R78 `DECODE(F)`: total, it reads the frame and nothing else (R60). -/
def decodeFrame (f : Frame) : ControlState :=
  { rightStickY := axisRYValue f
    rightStickX := axisRXValue f
    leftStickX := axisLXValue f
    leftStickY := axisLYValue f
    dpad := dpadValue f
    face := faceValue f
    shoulder := shoulderValue f
    menu := menuValue f }

/-! ### The frame encoder -/

/-- The table code of a D-pad value (R42); `Idle` takes the table's own 0xF. -/
def nibbleOfDpad : Dpad → Nibble
  | .up => 0x0#4
  | .right => 0x2#4
  | .down => 0x4#4
  | .left => 0x6#4
  | .idle => 0xF#4

/-- One bit as a vector. -/
def bit (b : Bool) : BitVec 1 := BitVec.ofBool b

/-- Byte 5: Square, Cross, Circle, Triangle, then the D-pad nibble (R40). -/
def byte5 (d : Dpad) (b : FaceButtons) : Byte :=
  bit b.square ++ bit b.cross ++ bit b.circle ++ bit b.triangle ++ nibbleOfDpad d

/-- Byte 6: RightStickClick, LeftStickClick, Start, Select, R1, L1, R2, L2 from bit 7 down (R40). -/
def byte6 (b : ShoulderButtons) (m : MenuButtons) : Byte :=
  bit m.rightStickClick ++ bit m.leftStickClick ++ bit m.start ++ bit m.select
    ++ bit b.r1 ++ bit b.l1 ++ bit b.r2 ++ bit b.l2

/-- A frame that decodes to `cs` (R40). The ignored bytes 0 and 7 (R44) are 0 and `Idle` is 0xF: log 9. -/
def encodeFrame (cs : ControlState) : Frame :=
  frameOfBytes
    [0, cs.rightStickY, cs.rightStickX, cs.leftStickX, cs.leftStickY,
     byte5 cs.dpad cs.face, byte6 cs.shoulder cs.menu, 0]

/-! ### Rows: which row of a group a value selects (R53) -/

/-- The `DPAD` row of a frame: one for each nibble (R42, R53). -/
def dpadRow (f : Frame) : Instr :=
  match (dpadNibble f).toNat with
  | 0 => .dpadN0 f
  | 1 => .dpadN1 f
  | 2 => .dpadN2 f
  | 3 => .dpadN3 f
  | 4 => .dpadN4 f
  | 5 => .dpadN5 f
  | 6 => .dpadN6 f
  | 7 => .dpadN7 f
  | 8 => .dpadN8 f
  | 9 => .dpadN9 f
  | 10 => .dpadNA f
  | 11 => .dpadNB f
  | 12 => .dpadNC f
  | 13 => .dpadND f
  | 14 => .dpadNE f
  | _ => .dpadNF f

/-- R47, R86: the `REMAP.SIDE` row of an operand. -/
def sideRow (raw : Byte) : Instr :=
  if raw.toNat < Config.center then .remapSideLow raw
  else if raw.toNat = Config.center then .remapSideMid
  else .remapSideHigh raw

/-- R47, R87: the `REMAP.MAG` row of an operand. -/
def magRow (raw : Byte) : Instr :=
  if raw.toNat < Config.center then .remapMagLow raw
  else if raw.toNat = Config.center then .remapMagMid
  else .remapMagHigh raw

/-- R47, R93: the `REMAP.THRUST` row of an operand. -/
def thrustRow (raw : Byte) : Instr :=
  if raw.toNat < Config.center then .remapThrustLow raw
  else if raw.toNat = Config.center then .remapThrustMid
  else .remapThrustHigh raw

/-- R47, R94: the `REMAP.STEER` row of an operand. -/
def steerRow (raw : Byte) : Instr :=
  if raw.toNat < Config.center then .remapSteerLow raw
  else if raw.toNat = Config.center then .remapSteerMid
  else .remapSteerHigh raw

/-- What the environment drives on the 4-bit `len` port for a reader result of `n` bytes (R19, R50): `n` itself up to
15. DESIGN CHOICE (log 11): a longer one has no code of its own and stands there as 15, one of the codes 9 to 15 that
the model refuses, so every `n > 8` is refused (R16, R122). -/
def lenCode (n : Nat) : Len := BitVec.ofNat 4 (min n 15)

/-- R50, R105, R121, R122: the `SAMPLE` row of what stands on the `len` and `frame` ports. The bytes are looked at only
when `len` is 8 (R46). -/
def sampleRow (len : Len) (f : Frame) : Instr :=
  if len.toNat = Config.frameBytes then .sampleOk f
  else if len.toNat < Config.frameBytes then .sampleIncomplete len
  else .sampleRefused len

/-! ### The table's decoder and encoder -/

/-- The value a row of the table is tested on (R53). A `SAMPLE` row is tested on `len`; the frame stands beside it. -/
inductive TableValue where
  | frame64 (f : Frame)
  | raw8 (raw : Byte)
  | len4 (len : Len) (f : Frame)
deriving DecidableEq, Repr

/-- The format of a value. -/
def TableValue.format : TableValue → Format
  | .frame64 _ => .frame64
  | .raw8 _ => .raw8
  | .len4 _ _ => .len4

/-- The number that `mask` and `match` test (R53). -/
def TableValue.number : TableValue → Nat
  | .frame64 f => f.toNat
  | .raw8 raw => raw.toNat
  | .len4 len _ => len.toNat

/-- Why the decoder refuses, by name. -/
inductive DecodeError where
  /-- The operation is not tested on a value of this format (R53). Safe. -/
  | wrongFormat (op : Operation) (fmt : Format)
deriving DecidableEq, Repr

/-- R53: the instruction of one operation's group that a value selects. -/
def decodeOp (op : Operation) (v : TableValue) : Except DecodeError Instr :=
  match op, v with
  | .axisRY, .frame64 f => .ok (.axisRY f)
  | .axisRX, .frame64 f => .ok (.axisRX f)
  | .axisLX, .frame64 f => .ok (.axisLX f)
  | .axisLY, .frame64 f => .ok (.axisLY f)
  | .dpad, .frame64 f => .ok (dpadRow f)
  | .btnTriangle, .frame64 f => .ok (.btnTriangle f)
  | .btnCircle, .frame64 f => .ok (.btnCircle f)
  | .btnCross, .frame64 f => .ok (.btnCross f)
  | .btnSquare, .frame64 f => .ok (.btnSquare f)
  | .btnL2, .frame64 f => .ok (.btnL2 f)
  | .btnR2, .frame64 f => .ok (.btnR2 f)
  | .btnL1, .frame64 f => .ok (.btnL1 f)
  | .btnR1, .frame64 f => .ok (.btnR1 f)
  | .btnSelect, .frame64 f => .ok (.btnSelect f)
  | .btnStart, .frame64 f => .ok (.btnStart f)
  | .btnLStick, .frame64 f => .ok (.btnLStick f)
  | .btnRStick, .frame64 f => .ok (.btnRStick f)
  | .decode, .frame64 f => .ok (.decode f)
  | .actuate, .frame64 f => .ok (.actuate (decodeFrame f))
  | .remapSide, .raw8 raw => .ok (sideRow raw)
  | .remapMag, .raw8 raw => .ok (magRow raw)
  | .remapThrust, .raw8 raw => .ok (thrustRow raw)
  | .remapSteer, .raw8 raw => .ok (steerRow raw)
  | .sample, .len4 len f => .ok (sampleRow len f)
  | op, v => .error (.wrongFormat op v.format)

/-- The decoder of what the reader delivers, on any bytes: the `SAMPLE` row of their number (R16, R50, R105). None is
rejected here, since a read of more than 8 bytes is the row `SAMPLE.REFUSED` (R122). -/
def decode (bytes : List Byte) : Except DecodeError Instr :=
  decodeOp .sample (.len4 (lenCode bytes.length) (frameOfBytes bytes))

/-- The value of an instruction, from the same tables: the frame, the raw operand, or the length. A length row that
carries no frame has the bytes 0, which are ignored (R19, R46). -/
def encode : Instr → TableValue
  | .axisRY f => .frame64 f
  | .axisRX f => .frame64 f
  | .axisLX f => .frame64 f
  | .axisLY f => .frame64 f
  | .dpadN0 f => .frame64 f
  | .dpadN1 f => .frame64 f
  | .dpadN2 f => .frame64 f
  | .dpadN3 f => .frame64 f
  | .dpadN4 f => .frame64 f
  | .dpadN5 f => .frame64 f
  | .dpadN6 f => .frame64 f
  | .dpadN7 f => .frame64 f
  | .dpadN8 f => .frame64 f
  | .dpadN9 f => .frame64 f
  | .dpadNA f => .frame64 f
  | .dpadNB f => .frame64 f
  | .dpadNC f => .frame64 f
  | .dpadND f => .frame64 f
  | .dpadNE f => .frame64 f
  | .dpadNF f => .frame64 f
  | .btnTriangle f => .frame64 f
  | .btnCircle f => .frame64 f
  | .btnCross f => .frame64 f
  | .btnSquare f => .frame64 f
  | .btnL2 f => .frame64 f
  | .btnR2 f => .frame64 f
  | .btnL1 f => .frame64 f
  | .btnR1 f => .frame64 f
  | .btnSelect f => .frame64 f
  | .btnStart f => .frame64 f
  | .btnLStick f => .frame64 f
  | .btnRStick f => .frame64 f
  | .decode f => .frame64 f
  | .remapSideLow raw => .raw8 raw
  | .remapSideMid => .raw8 0x80#8
  | .remapSideHigh raw => .raw8 raw
  | .remapMagLow raw => .raw8 raw
  | .remapMagMid => .raw8 0x80#8
  | .remapMagHigh raw => .raw8 raw
  | .remapThrustLow raw => .raw8 raw
  | .remapThrustMid => .raw8 0x80#8
  | .remapThrustHigh raw => .raw8 raw
  | .remapSteerLow raw => .raw8 raw
  | .remapSteerMid => .raw8 0x80#8
  | .remapSteerHigh raw => .raw8 raw
  | .actuate cs => .frame64 (encodeFrame cs)
  | .sampleOk f => .len4 0x8#4 f
  | .sampleIncomplete len => .len4 len 0
  | .sampleRefused len => .len4 len 0

/-! ### A word of opcode_table.json on the input ports (log 7) -/

/-- How the hardware holds a table word of `nbits` bits, as what stands on `len` and `frame`.
A word of at most 8 bits whose value is a `len` code (R50) stands on `len`, with every frame byte 0; any other such word
is a `raw` operand (R47) and stands on the two bytes the remapper reads, 2 and 4 (R93, R94), of a full frame. A longer
word is the bytes of one reader result, byte 0 first (R19, R27). -/
def tableInput (nbits w : Nat) : Len × Frame :=
  if nbits ≤ 8 then
    if w < 16 then (BitVec.ofNat 4 w, 0)
    else (8#4, frameOfBytes [0, 0, BitVec.ofNat 8 w, 0, BitVec.ofNat 8 w, 0, 0, 0])
  else (lenCode (nbits / 8), BitVec.ofNat 64 w)

/-- The instruction the decoder reads from a table word: the `SAMPLE` that a step performs on it, since no other
operation can be selected (R2, R52). -/
def decodeTableWord (nbits w : Nat) : Option Instr :=
  let p := tableInput nbits w
  some (sampleRow p.1 p.2)

end Sys2Proof
end

