-- ==== Sys2Proof/Machine/State.lean ====
section
/-! DEFINITION. What stands in place of state on a block that has none (10_state.md R10 to R15): the input ports
(R19), the output ports of the last step (R20), the two operation results that no port carries, and the schedule of
the environment (R113). Plain data. -/

namespace Sys2Proof.Machine

/-- The `frame` port as the block's only address space (20_memory.md R25): byte `k` at address `k`, 0 to 7.
Canonical form: addresses strictly rising, and no entry for a byte that is 0, which is what an unlisted address reads
as (DESIGN CHOICE, log 5). -/
abbrev Memory := List Host.Cell

/-- What an unlisted address reads as (log 5). -/
def unlistedByte : Byte := 0

/-- What the environment drives on the input ports in one step (R19): `frame` packed as R7 says. -/
structure PortIn where
  inValid : Bool
  len : Len
  frame : Frame
deriving DecidableEq, Repr

/-- The data output ports (R20), with the codes of 30_encoding.md R48 and R49. -/
structure DataPorts where
  rightStickY : Byte
  rightStickX : Byte
  leftStickX : Byte
  leftStickY : Byte
  dpad : BitVec 3
  face : BitVec 4
  shoulder : BitVec 4
  menu : BitVec 4
  thrustMag : Byte
  thrustDir : BitVec 1
  steerMag : Byte
  steerDir : BitVec 2
deriving DecidableEq, Repr

/-- The machine. -/
structure State where
  /-- `in_valid` (R19): the environment presents a reader result in the coming step. -/
  inValid : Bool
  /-- `len` (R19, R50). -/
  len : Len
  /-- `frame` (R19, R25). -/
  frame : Memory
  /-- What the environment drives in the steps after the coming one (R113). The model's own field, log 1. -/
  upcoming : List PortIn
  /-- `out_valid` (R20), as driven in the last step. -/
  outValid : Bool
  /-- `err_incomplete` (R20), as driven in the last step. -/
  errIncomplete : Bool
  /-- The data output ports (R20), as driven in the last step. -/
  data : DataPorts
  /-- The result of `REMAP.SIDE` (R86), which no port carries (log 4). -/
  side : Side
  /-- The result of `REMAP.MAG` (R87), which no port carries (log 4). -/
  magnitude : Byte
  /-- The `n` of `IncompleteFrame(n)` when that was the last outcome (R120, log 10). -/
  incompleteLen : Option Len
  /-- The index of the next free value of the data outputs. The model's own field, log 3. -/
  freeCount : Nat
deriving DecidableEq, Repr

/-- Why a step stops with a fault. -/
inductive Fault where
  /-- Raised by a read of a frame byte outside 0 to 7 (20_memory.md R25, R29). No operation computes an address, so
  no step raises it. Safe. -/
  | noSuchByte (address : Nat)
deriving DecidableEq, Repr

/-- Why a step is refused. -/
inductive Refusal where
  /-- An instruction whose meaning is not written; raised by `exec` alone, and by no arm of it now. Safe. -/
  | notModelled (mnemonic : String)
  /-- Raised by `SAMPLE.REFUSED`: the reader result is longer than 8 bytes (60_exceptions.md R122, D4). Safe: the spec
  itself has the model refuse the step. -/
  | overlongRead (len : Len)
deriving DecidableEq, Repr

/-- The `n`-th set of unspecified data outputs (R108, R109, R21; 93_implementation_defined.md U6; log 3): every port
at a free value of its own. DESIGN CHOICE, unsafe across instances (log 3): the functions are the same for every
instance, so two instances (R135) with equal `freeCount` drive equal unspecified values; the spec says nothing of the
sort. -/
def freeData (n : Nat) : DataPorts :=
  { rightStickY := Config.freeRightStickY n
    rightStickX := Config.freeRightStickX n
    leftStickX := Config.freeLeftStickX n
    leftStickY := Config.freeLeftStickY n
    dpad := Config.freeDpad n
    face := Config.freeFace n
    shoulder := Config.freeShoulder n
    menu := Config.freeMenu n
    thrustMag := Config.freeThrustMag n
    thrustDir := Config.freeThrustDir n
    steerMag := Config.freeSteerMag n
    steerDir := Config.freeSteerDir n }

/-- Before the first sample (R21, R140): nothing is presented, both strobes are 0, the data outputs are unspecified.
The other values are the model's (log 1, 3, 4, 5). -/
def State.reset : State :=
  { inValid := false
    len := 0
    frame := []
    upcoming := []
    outValid := false
    errIncomplete := false
    data := freeData 0
    side := .low
    magnitude := 0
    incompleteLen := none
    freeCount := 1 }

end Sys2Proof.Machine
end

