-- ==== Sys2Proof/Machine/Ops.lean ====
section
/-! DEFINITION. The named operations over the frame memory and the ports, and the one error outcome as one shared
operation. -/

namespace Sys2Proof.Machine

/-! ### The frame as memory (20_memory.md) -/

/-- The canonical form (log 5): addresses of the frame, strictly rising from `lo`, no entry that reads as unlisted. -/
def Memory.wfFrom (lo : Nat) : Memory → Bool
  | [] => true
  | (a, v) :: rest =>
    decide (lo ≤ a) && decide (a < Config.frameBytes) && (v != unlistedByte) && Memory.wfFrom (a + 1) rest

/-- The canonical form of a whole frame memory. -/
def Memory.wf (m : Memory) : Bool := Memory.wfFrom 0 m

/-- The byte at an address, with no check of the address. -/
def Memory.peek (m : Memory) (a : Nat) : Byte :=
  match m with
  | [] => unlistedByte
  | (b, v) :: rest => if a = b then v else Memory.peek rest a

/-- Put a byte at an address, keeping the canonical form. No operation of the block writes the frame (R28): this is
how the environment's next frame comes to stand on the port. -/
def Memory.poke (m : Memory) (a : Nat) (v : Byte) : Memory :=
  match m with
  | [] => if v = unlistedByte then [] else [(a, v)]
  | (b, w) :: rest =>
    if a < b then (if v = unlistedByte then (b, w) :: rest else (a, v) :: (b, w) :: rest)
    else if a = b then (if v = unlistedByte then rest else (a, v) :: rest)
    else (b, w) :: Memory.poke rest a v

/-- The memory that holds a list of bytes from address `a` on. -/
def Memory.load (a : Nat) (bytes : List Byte) (m : Memory) : Memory :=
  match bytes with
  | [] => m
  | b :: bs => Memory.load (a + 1) bs (Memory.poke m a b)

/-- The memory that holds a frame (R7: `F.byte[k]` is `frame[8*k+7 : 8*k]`). -/
def Memory.ofFrame (f : Frame) : Memory := Memory.load 0 (bytesOfFrame f) []

/-- One byte of the frame; an address outside 0 to 7 does not exist (R25, R29). -/
def readByte (m : Memory) (a : Nat) : Except Fault Byte :=
  if a < Config.frameBytes then .ok (Memory.peek m a) else .error (.noSuchByte a)

/-- `MemRead(addr, n)` (00_scope.md R8): `n` bytes from `addr`, little-endian, as a natural number. -/
def memRead (m : Memory) (addr : Nat) : Nat → Except Fault Nat
  | 0 => .ok 0
  | n + 1 =>
    match readByte m addr with
    | .error φ => .error φ
    | .ok b =>
      match memRead m (addr + 1) n with
      | .error φ => .error φ
      | .ok rest => .ok (b.toNat + 256 * rest)

/-- The whole frame, read at once (R30), as the 64-bit number of R7. -/
def readFrame (m : Memory) : Except Fault Frame :=
  match memRead m 0 Config.frameBytes with
  | .error φ => .error φ
  | .ok v => .ok (BitVec.ofNat Config.frameBits v)

/-! ### Port codes (30_encoding.md R48, R49) -/

/-- R48: `Up` 0, `Right` 1, `Down` 2, `Left` 3, `Idle` 4. -/
def dpadCode : Dpad → BitVec 3
  | .up => 0
  | .right => 1
  | .down => 2
  | .left => 3
  | .idle => 4

/-- The value a `dpad` code stands for; 5, 6, 7 stand for none (R48, U11). -/
def dpadOfCode (c : BitVec 3) : Option Dpad :=
  match c.toNat with
  | 0 => some .up
  | 1 => some .right
  | 2 => some .down
  | 3 => some .left
  | 4 => some .idle
  | _ => none

/-- R49: `Forward` 0, `Reverse` 1. -/
def thrustCode : ThrustDir → BitVec 1
  | .forward => 0
  | .reverse => 1

/-- The value a `thrust_dir` code stands for (R49). -/
def thrustOfCode (c : BitVec 1) : ThrustDir := if c = 0#1 then .forward else .reverse

/-- R49: `Straight` 0, `Left` 1, `Right` 2. -/
def steerCode : SteerDir → BitVec 2
  | .straight => 0
  | .left => 1
  | .right => 2

/-- The value a `steer_dir` code stands for; 3 stands for none (R49, U11). -/
def steerOfCode (c : BitVec 2) : Option SteerDir :=
  match c.toNat with
  | 0 => some .straight
  | 1 => some .left
  | 2 => some .right
  | _ => none

/-- R20, R48: `face[0]` Triangle, `[1]` Circle, `[2]` Cross, `[3]` Square. -/
def faceCode (b : FaceButtons) : BitVec 4 := bit b.square ++ bit b.cross ++ bit b.circle ++ bit b.triangle

/-- R20, R48: `shoulder[0]` L2, `[1]` R2, `[2]` L1, `[3]` R1. -/
def shoulderCode (b : ShoulderButtons) : BitVec 4 := bit b.r1 ++ bit b.l1 ++ bit b.r2 ++ bit b.l2

/-- R20, R48: `menu[0]` Select, `[1]` Start, `[2]` LeftStickClick, `[3]` RightStickClick. -/
def menuCode (b : MenuButtons) : BitVec 4 :=
  bit b.rightStickClick ++ bit b.leftStickClick ++ bit b.start ++ bit b.select

/-- The buttons a code stands for. -/
def faceOfCode (c : BitVec 4) : FaceButtons :=
  { triangle := c.getLsbD 0, circle := c.getLsbD 1, cross := c.getLsbD 2, square := c.getLsbD 3 }

/-- The buttons a code stands for. -/
def shoulderOfCode (c : BitVec 4) : ShoulderButtons :=
  { l2 := c.getLsbD 0, r2 := c.getLsbD 1, l1 := c.getLsbD 2, r1 := c.getLsbD 3 }

/-- The buttons a code stands for. -/
def menuOfCode (c : BitVec 4) : MenuButtons :=
  { select := c.getLsbD 0, start := c.getLsbD 1, leftStickClick := c.getLsbD 2, rightStickClick := c.getLsbD 3 }

/-- One bit of a button port set to a value, the other three kept. -/
def putBit (v : BitVec 4) (i : Nat) (b : Bool) : BitVec 4 :=
  if b then v ||| (1#4 <<< i) else v &&& ~~~(1#4 <<< i)

/-! ### Writing the data ports -/

/-- R61. -/
def DataPorts.setRightStickY (d : DataPorts) (v : Byte) : DataPorts := { d with rightStickY := v }
/-- R62. -/
def DataPorts.setRightStickX (d : DataPorts) (v : Byte) : DataPorts := { d with rightStickX := v }
/-- R63. -/
def DataPorts.setLeftStickX (d : DataPorts) (v : Byte) : DataPorts := { d with leftStickX := v }
/-- R64. -/
def DataPorts.setLeftStickY (d : DataPorts) (v : Byte) : DataPorts := { d with leftStickY := v }
/-- R65, R48. -/
def DataPorts.setDpad (d : DataPorts) (v : Dpad) : DataPorts := { d with dpad := dpadCode v }
/-- R66 to R69: one button, at bit `i` of its port. -/
def DataPorts.setFaceBit (d : DataPorts) (i : Nat) (b : Bool) : DataPorts := { d with face := putBit d.face i b }
/-- R70 to R73. -/
def DataPorts.setShoulderBit (d : DataPorts) (i : Nat) (b : Bool) : DataPorts :=
  { d with shoulder := putBit d.shoulder i b }
/-- R74 to R77. -/
def DataPorts.setMenuBit (d : DataPorts) (i : Nat) (b : Bool) : DataPorts := { d with menu := putBit d.menu i b }
/-- R93, R49. -/
def DataPorts.setThrust (d : DataPorts) (dir : ThrustDir) (mag : Byte) : DataPorts :=
  { d with thrustDir := thrustCode dir, thrustMag := mag }
/-- R94, R49. -/
def DataPorts.setSteer (d : DataPorts) (dir : SteerDir) (mag : Byte) : DataPorts :=
  { d with steerDir := steerCode dir, steerMag := mag }

/-- A whole `ControlState` on its eight ports (R108). -/
def DataPorts.setControlState (d : DataPorts) (cs : ControlState) : DataPorts :=
  { d with
    rightStickY := cs.rightStickY
    rightStickX := cs.rightStickX
    leftStickX := cs.leftStickX
    leftStickY := cs.leftStickY
    dpad := dpadCode cs.dpad
    face := faceCode cs.face
    shoulder := shoulderCode cs.shoulder
    menu := menuCode cs.menu }

/-- A whole `ActuatorCommand` on its four ports (R108). -/
def DataPorts.setCommand (d : DataPorts) (ac : ActuatorCommand) : DataPorts :=
  { d with
    thrustMag := ac.thrustMagnitude
    thrustDir := thrustCode ac.thrustDirection
    steerMag := ac.steerMagnitude
    steerDir := steerCode ac.steerDirection }

/-- New values on the data output ports, everything else kept. -/
def State.setData (s : State) (d : DataPorts) : State := { s with data := d }
/-- The result of `REMAP.SIDE` (R86). -/
def State.setSide (s : State) (v : Side) : State := { s with side := v }
/-- The result of `REMAP.MAG` (R87). -/
def State.setMagnitude (s : State) (v : Byte) : State := { s with magnitude := v }

/-- Every data output unspecified (R108, R109): the next free values, and the count moves on (log 3). -/
def State.releaseData (s : State) : State :=
  { s with data := freeData s.freeCount, freeCount := s.freeCount + 1 }

/-- The two strobes and the recorded length (R20, R120). -/
def State.setStrobes (s : State) (valid incomplete : Bool) (n : Option Len) : State :=
  { s with outValid := valid, errIncomplete := incomplete, incompleteLen := n }

/-! ### The error outcome (60_exceptions.md) -/

/-- TAKING THE ERROR: `raise IncompleteFrame(n)` (R8, R121, R128). At the ports it is `err_incomplete` 1 and `out_valid`
0, the data outputs unspecified (R108); `n` is recorded (R120). Nothing else is saved and nothing changes mode; there
is no return from it, the next step's strobes being decided by the next step's `len` alone (R129). -/
def State.raiseIncompleteFrame (s : State) (n : Len) : State :=
  (s.releaseData).setStrobes false true (some n)

/-- The result pair is there (R108): `out_valid` 1, `err_incomplete` 0. -/
def State.deliverResult (s : State) (d : DataPorts) : State :=
  (s.setData d).setStrobes true false none

/-- A step in which nothing is presented (R109): both strobes 0, the data outputs unspecified, nothing held over. -/
def State.driveNothing (s : State) : State :=
  (s.releaseData).setStrobes false false none

/-! ### The environment's side (R112, R113, log 1) -/

/-- The input of a step in which nothing is presented. -/
def PortIn.nothing : PortIn := { inValid := false, len := 0, frame := 0 }

/-- A reader result of any length on the ports (R16, R19): `len` is the number of bytes (above 15: 15, log 11), `frame`
the first eight bytes packed. -/
def PortIn.ofReader (bytes : List Byte) : PortIn :=
  { inValid := true, len := lenCode bytes.length, frame := frameOfBytes bytes }

/-- The input ports driven with `p`. -/
def State.drive (s : State) (p : PortIn) : State :=
  { s with inValid := p.inValid, len := p.len, frame := Memory.ofFrame p.frame }

/-- The end of a step: the frame is consumed once and not retained (R25), and the environment drives its next input,
or nothing when its schedule is used up. -/
def State.presentNext (s : State) : State :=
  match s.upcoming with
  | [] => s.drive PortIn.nothing
  | p :: rest => { s.drive p with upcoming := rest }

/-- A run (R113): the reader results `B_1, …, B_m` presented one a step from the coming step on. -/
def State.withRun (s : State) (run : List (List Byte)) : State :=
  match run with
  | [] => { s.drive PortIn.nothing with upcoming := [] }
  | b :: bs => { s.drive (PortIn.ofReader b) with upcoming := bs.map PortIn.ofReader }

end Sys2Proof.Machine
end

