-- ==== Sys2Proof/Machine/Operands.lean ====
section
/-! DEFINITION. Operand forms and the arithmetic on them: the raw axis operand, the two interpolations, the remap
functions, the aggregate (41_axis_remapper.md), and `SAMPLE` as a function of one reader result (R105). -/

namespace Sys2Proof.Machine

/-! ### The raw axis operand -/

/-- The byte `ACTUATE` feeds to `REMAP.THRUST`: left stick Y, byte 4 (R64, R93, R95). -/
def thrustOperand (cs : ControlState) : Byte := cs.leftStickY

/-- The byte `ACTUATE` feeds to `REMAP.STEER`: right stick X, byte 2 (R62, R94, R95). -/
def steerOperand (cs : ControlState) : Byte := cs.rightStickX

/-! ### Side and magnitude -/

/-- R86 `REMAP.SIDE(raw)`: 128 is `Low`. -/
def remapSide (raw : Byte) : Side := if raw.toNat ≤ Config.center then .low else .high

/-- The low-side formula of R87, with the correction of 90_conflicts.md C1: the product first, then the division
rounding toward zero. -/
def lowMagnitude (raw : Byte) : Nat := (Config.center - raw.toNat) * Config.outMax / Config.lowSpan

/-- The high-side formula of R87. -/
def highMagnitude (raw : Byte) : Nat := (raw.toNat - Config.highBase) * Config.outMax / Config.highSpan

/-- R87 `REMAP.MAG(raw)`, a natural number 0 to 255; the clamp the source mentions is never reached (R92). -/
def remapMag (raw : Byte) : Nat := if raw.toNat ≤ Config.center then lowMagnitude raw else highMagnitude raw

/-- A magnitude as the 8-bit number its port carries (R49). -/
def magByte (n : Nat) : Byte := BitVec.ofNat 8 n

/-! ### The two variants and the aggregate -/

/-- The direction of R93: no centred case. -/
def thrustDirection (raw : Byte) : ThrustDir := if raw.toNat ≤ Config.center then .forward else .reverse

/-- The direction of R94: 128 and no other value is `Straight`. -/
def steerDirection (raw : Byte) : SteerDir :=
  if raw.toNat = Config.center then .straight else if raw.toNat < Config.center then .left else .right

/-- R95 `ACTUATE(cs)`. -/
def actuate (cs : ControlState) : ActuatorCommand :=
  { thrustMagnitude := magByte (remapMag (thrustOperand cs))
    thrustDirection := thrustDirection (thrustOperand cs)
    steerMagnitude := magByte (remapMag (steerOperand cs))
    steerDirection := steerDirection (steerOperand cs) }

/-! ### The whole sample as a function (42_sample_step.md R105) -/

/-- R105 `SAMPLE(B)`: short reads are an error, long reads are outside the contract, eight bytes are decoded. -/
def sample (bytes : List Byte) : SampleResult :=
  if bytes.length < Config.frameBytes then .incompleteFrame bytes.length
  else if Config.frameBytes < bytes.length then .refused
  else .decoded (decodeFrame (frameOfBytes bytes)) (actuate (decodeFrame (frameOfBytes bytes)))

/-! ### The operation-level results, read back from the ports -/

/-- The `ControlState` on the ports; none unless `out_valid` is 1 (R21, R108). -/
def State.controlState? (s : State) : Option ControlState :=
  if s.outValid then
    (dpadOfCode s.data.dpad).map fun d =>
      { rightStickY := s.data.rightStickY
        rightStickX := s.data.rightStickX
        leftStickX := s.data.leftStickX
        leftStickY := s.data.leftStickY
        dpad := d
        face := faceOfCode s.data.face
        shoulder := shoulderOfCode s.data.shoulder
        menu := menuOfCode s.data.menu }
  else none

/-- The `ActuatorCommand` on the ports; none unless `out_valid` is 1 (R21, R108). -/
def State.command? (s : State) : Option ActuatorCommand :=
  if s.outValid then
    (steerOfCode s.data.steerDir).map fun d =>
      { thrustMagnitude := s.data.thrustMag
        thrustDirection := thrustOfCode s.data.thrustDir
        steerMagnitude := s.data.steerMag
        steerDirection := d }
  else none

/-- What the last step handed back to the caller (R105, R120): the pair, the error, or nothing. -/
def State.outcome (s : State) : Option SampleResult :=
  match s.controlState?, s.command?, s.incompleteLen with
  | some cs, some ac, _ => some (.decoded cs ac)
  | _, _, some n => some (.incompleteFrame n.toNat)
  | _, _, none => none

end Sys2Proof.Machine
end

