-- ==== Sys2Proof/Machine/FrameDecoder.lean ====
section
/-! DEFINITION. The FrameDecoder family (40_frame_decoder.md): `AXIS.*`, `DPAD.*`, `BTN.*`, `DECODE`. Each operation reads
its frame operand and writes the ports of its own result fields; it has no flag and cannot fail (R60, R125). -/

namespace Sys2Proof.Machine

abbrev Result := Host.Outcome State Fault Refusal

/-! ### Axis extractions -/

/-- R61 `AXIS.RY`: the raw byte, unchanged. -/
def execAxisRY (f : Frame) (s : State) : Result :=
  .next (s.setData (s.data.setRightStickY (axisRYValue f)))

/-- R62 `AXIS.RX`: the raw byte, unchanged. -/
def execAxisRX (f : Frame) (s : State) : Result :=
  .next (s.setData (s.data.setRightStickX (axisRXValue f)))

/-- R63 `AXIS.LX`: the raw byte, unchanged. -/
def execAxisLX (f : Frame) (s : State) : Result :=
  .next (s.setData (s.data.setLeftStickX (axisLXValue f)))

/-- R64 `AXIS.LY`: the raw byte, unchanged. -/
def execAxisLY (f : Frame) (s : State) : Result :=
  .next (s.setData (s.data.setLeftStickY (axisLYValue f)))

/-! ### D-pad rows (R65, R42): the result of each row of the value table -/

/-- R65 `DPAD.N0`: Up. -/
def execDpadN0 (_f : Frame) (s : State) : Result := .next (s.setData (s.data.setDpad .up))

/-- R65 `DPAD.N1`: Idle, by default (R124: no error). -/
def execDpadN1 (_f : Frame) (s : State) : Result := .next (s.setData (s.data.setDpad .idle))

/-- R65 `DPAD.N2`: Right. -/
def execDpadN2 (_f : Frame) (s : State) : Result := .next (s.setData (s.data.setDpad .right))

/-- R65 `DPAD.N3`: Idle, by default (R124: no error). -/
def execDpadN3 (_f : Frame) (s : State) : Result := .next (s.setData (s.data.setDpad .idle))

/-- R65 `DPAD.N4`: Down. -/
def execDpadN4 (_f : Frame) (s : State) : Result := .next (s.setData (s.data.setDpad .down))

/-- R65 `DPAD.N5`: Idle, by default (R124: no error). -/
def execDpadN5 (_f : Frame) (s : State) : Result := .next (s.setData (s.data.setDpad .idle))

/-- R65 `DPAD.N6`: Left. -/
def execDpadN6 (_f : Frame) (s : State) : Result := .next (s.setData (s.data.setDpad .left))

/-- R65 `DPAD.N7`: Idle, by default (R124: no error). -/
def execDpadN7 (_f : Frame) (s : State) : Result := .next (s.setData (s.data.setDpad .idle))

/-- R65 `DPAD.N8`: Idle, by default (R124: no error). -/
def execDpadN8 (_f : Frame) (s : State) : Result := .next (s.setData (s.data.setDpad .idle))

/-- R65 `DPAD.N9`: Idle, by default (R124: no error). -/
def execDpadN9 (_f : Frame) (s : State) : Result := .next (s.setData (s.data.setDpad .idle))

/-- R65 `DPAD.NA`: Idle, by default (R124: no error). -/
def execDpadNA (_f : Frame) (s : State) : Result := .next (s.setData (s.data.setDpad .idle))

/-- R65 `DPAD.NB`: Idle, by default (R124: no error). -/
def execDpadNB (_f : Frame) (s : State) : Result := .next (s.setData (s.data.setDpad .idle))

/-- R65 `DPAD.NC`: Idle, by default (R124: no error). -/
def execDpadNC (_f : Frame) (s : State) : Result := .next (s.setData (s.data.setDpad .idle))

/-- R65 `DPAD.ND`: Idle, by default (R124: no error). -/
def execDpadND (_f : Frame) (s : State) : Result := .next (s.setData (s.data.setDpad .idle))

/-- R65 `DPAD.NE`: Idle, by default (R124: no error). -/
def execDpadNE (_f : Frame) (s : State) : Result := .next (s.setData (s.data.setDpad .idle))

/-- R65 `DPAD.NF`: Idle. -/
def execDpadNF (_f : Frame) (s : State) : Result := .next (s.setData (s.data.setDpad .idle))

/-! ### Buttons: one bit, 1 is true (R43), whatever the other bits are -/

/-- R66 `BTN.TRIANGLE`, bit 44, on `face[0]`. -/
def execBtnTriangle (f : Frame) (s : State) : Result :=
  .next (s.setData (s.data.setFaceBit 0 (frameBit f Config.triangleBit)))

/-- R67 `BTN.CIRCLE`, bit 45, on `face[1]`. -/
def execBtnCircle (f : Frame) (s : State) : Result :=
  .next (s.setData (s.data.setFaceBit 1 (frameBit f Config.circleBit)))

/-- R68 `BTN.CROSS`, bit 46, on `face[2]`. -/
def execBtnCross (f : Frame) (s : State) : Result :=
  .next (s.setData (s.data.setFaceBit 2 (frameBit f Config.crossBit)))

/-- R69 `BTN.SQUARE`, bit 47, on `face[3]`. -/
def execBtnSquare (f : Frame) (s : State) : Result :=
  .next (s.setData (s.data.setFaceBit 3 (frameBit f Config.squareBit)))

/-- R70 `BTN.L2`, bit 48, on `shoulder[0]`. -/
def execBtnL2 (f : Frame) (s : State) : Result :=
  .next (s.setData (s.data.setShoulderBit 0 (frameBit f Config.l2Bit)))

/-- R71 `BTN.R2`, bit 49, on `shoulder[1]`. -/
def execBtnR2 (f : Frame) (s : State) : Result :=
  .next (s.setData (s.data.setShoulderBit 1 (frameBit f Config.r2Bit)))

/-- R72 `BTN.L1`, bit 50, on `shoulder[2]`. -/
def execBtnL1 (f : Frame) (s : State) : Result :=
  .next (s.setData (s.data.setShoulderBit 2 (frameBit f Config.l1Bit)))

/-- R73 `BTN.R1`, bit 51, on `shoulder[3]`. -/
def execBtnR1 (f : Frame) (s : State) : Result :=
  .next (s.setData (s.data.setShoulderBit 3 (frameBit f Config.r1Bit)))

/-- R74 `BTN.SELECT`, bit 52, on `menu[0]`. -/
def execBtnSelect (f : Frame) (s : State) : Result :=
  .next (s.setData (s.data.setMenuBit 0 (frameBit f Config.selectBit)))

/-- R75 `BTN.START`, bit 53, on `menu[1]`. -/
def execBtnStart (f : Frame) (s : State) : Result :=
  .next (s.setData (s.data.setMenuBit 1 (frameBit f Config.startBit)))

/-- R76 `BTN.LSTICK`, bit 54, on `menu[2]`. -/
def execBtnLStick (f : Frame) (s : State) : Result :=
  .next (s.setData (s.data.setMenuBit 2 (frameBit f Config.leftStickClickBit)))

/-- R77 `BTN.RSTICK`, bit 55, on `menu[3]`. -/
def execBtnRStick (f : Frame) (s : State) : Result :=
  .next (s.setData (s.data.setMenuBit 3 (frameBit f Config.rightStickClickBit)))

/-! ### The aggregate -/

/-- R78 `DECODE`: the seventeen fields of one frame together. -/
def execDecode (f : Frame) (s : State) : Result := .next (s.setData (s.data.setControlState (decodeFrame f)))

end Sys2Proof.Machine
end

