-- ==== Sys2Proof/Machine/AxisRemapper.lean ====
section
/-! DEFINITION. The AxisRemapper family (41_axis_remapper.md): the rows of `REMAP.SIDE`, `REMAP.MAG`, `REMAP.THRUST`,
`REMAP.STEER`, and `ACTUATE`. Pure, no flag, no failure (R85, R125). A `.MID` row's operand is 128. -/

namespace Sys2Proof.Machine

/-! ### `REMAP.SIDE` (R86) -/

/-- Raw 0 to 127. -/
def execRemapSideLow (_raw : Byte) (s : State) : Result := .next (s.setSide .low)
/-- Raw 128: the boundary is inclusive on the low side. -/
def execRemapSideMid (s : State) : Result := .next (s.setSide .low)
/-- Raw 129 to 255. -/
def execRemapSideHigh (_raw : Byte) (s : State) : Result := .next (s.setSide .high)

/-! ### `REMAP.MAG` (R87) -/

/-- The low-side formula, raw 0 to 127. -/
def execRemapMagLow (raw : Byte) (s : State) : Result := .next (s.setMagnitude (magByte (lowMagnitude raw)))
/-- The low-side formula at raw 128. -/
def execRemapMagMid (s : State) : Result := .next (s.setMagnitude (magByte (lowMagnitude 0x80#8)))
/-- The high-side formula, raw 129 to 255. -/
def execRemapMagHigh (raw : Byte) (s : State) : Result := .next (s.setMagnitude (magByte (highMagnitude raw)))

/-! ### `REMAP.THRUST` (R93) -/

/-- Raw 0 to 127: `Forward`. -/
def execRemapThrustLow (raw : Byte) (s : State) : Result :=
  .next (s.setData (s.data.setThrust .forward (magByte (remapMag raw))))
/-- Raw 128: `Forward`, thrust has no centred case. -/
def execRemapThrustMid (s : State) : Result :=
  .next (s.setData (s.data.setThrust .forward (magByte (remapMag 0x80#8))))
/-- Raw 129 to 255: `Reverse`. -/
def execRemapThrustHigh (raw : Byte) (s : State) : Result :=
  .next (s.setData (s.data.setThrust .reverse (magByte (remapMag raw))))

/-! ### `REMAP.STEER` (R94) -/

/-- Raw 0 to 127: `Left`. -/
def execRemapSteerLow (raw : Byte) (s : State) : Result :=
  .next (s.setData (s.data.setSteer .left (magByte (remapMag raw))))
/-- Raw 128: the centred case, `Straight`. -/
def execRemapSteerMid (s : State) : Result :=
  .next (s.setData (s.data.setSteer .straight (magByte (remapMag 0x80#8))))
/-- Raw 129 to 255: `Right`. -/
def execRemapSteerHigh (raw : Byte) (s : State) : Result :=
  .next (s.setData (s.data.setSteer .right (magByte (remapMag raw))))

/-! ### The aggregate -/

/-- R95 `ACTUATE`: thrust from left stick Y, steering from right stick X, nothing from any other field. -/
def execActuate (cs : ControlState) (s : State) : Result := .next (s.setData (s.data.setCommand (actuate cs)))

end Sys2Proof.Machine
end

