-- ==== Sys2Proof/Machine/SampleStep.lean ====
section
/-! DEFINITION. The `SAMPLE` rows (42_sample_step.md R105, R108; 60_exceptions.md R121, R122). -/

namespace Sys2Proof.Machine

/-- R105, R108, eight bytes: decode, remap, both results on the ports. It cannot fail, whatever the bytes are (R45). -/
def execSampleOk (f : Frame) (s : State) : Result :=
  .next (s.deliverResult ((s.data.setControlState (decodeFrame f)).setCommand (actuate (decodeFrame f))))

/-- R121, R108, fewer than eight bytes: `IncompleteFrame(n)`, whatever the bytes are; nothing is decoded. -/
def execSampleIncomplete (len : Len) (s : State) : Result := .next (s.raiseIncompleteFrame len)

/-- R122, more than eight bytes: "a model refuses the step (no result, no error name)". -/
def execSampleRefused (len : Len) (_s : State) : Result := .refused (.overlongRead len)

end Sys2Proof.Machine
end

