-- ==== Sys2Proof/Machine/Dispatch.lean ====
section
/-! DEFINITION. One arm per constructor of `Instr`, each one call of that instruction's own meaning. -/

namespace Sys2Proof.Machine

def exec (i : Instr) (s : State) : Host.Outcome State Fault Refusal :=
  match i with
  | .axisRY f => Sys2Proof.Machine.execAxisRY f s
  | .axisRX f => Sys2Proof.Machine.execAxisRX f s
  | .axisLX f => Sys2Proof.Machine.execAxisLX f s
  | .axisLY f => Sys2Proof.Machine.execAxisLY f s
  | .dpadN0 f => Sys2Proof.Machine.execDpadN0 f s
  | .dpadN1 f => Sys2Proof.Machine.execDpadN1 f s
  | .dpadN2 f => Sys2Proof.Machine.execDpadN2 f s
  | .dpadN3 f => Sys2Proof.Machine.execDpadN3 f s
  | .dpadN4 f => Sys2Proof.Machine.execDpadN4 f s
  | .dpadN5 f => Sys2Proof.Machine.execDpadN5 f s
  | .dpadN6 f => Sys2Proof.Machine.execDpadN6 f s
  | .dpadN7 f => Sys2Proof.Machine.execDpadN7 f s
  | .dpadN8 f => Sys2Proof.Machine.execDpadN8 f s
  | .dpadN9 f => Sys2Proof.Machine.execDpadN9 f s
  | .dpadNA f => Sys2Proof.Machine.execDpadNA f s
  | .dpadNB f => Sys2Proof.Machine.execDpadNB f s
  | .dpadNC f => Sys2Proof.Machine.execDpadNC f s
  | .dpadND f => Sys2Proof.Machine.execDpadND f s
  | .dpadNE f => Sys2Proof.Machine.execDpadNE f s
  | .dpadNF f => Sys2Proof.Machine.execDpadNF f s
  | .btnTriangle f => Sys2Proof.Machine.execBtnTriangle f s
  | .btnCircle f => Sys2Proof.Machine.execBtnCircle f s
  | .btnCross f => Sys2Proof.Machine.execBtnCross f s
  | .btnSquare f => Sys2Proof.Machine.execBtnSquare f s
  | .btnL2 f => Sys2Proof.Machine.execBtnL2 f s
  | .btnR2 f => Sys2Proof.Machine.execBtnR2 f s
  | .btnL1 f => Sys2Proof.Machine.execBtnL1 f s
  | .btnR1 f => Sys2Proof.Machine.execBtnR1 f s
  | .btnSelect f => Sys2Proof.Machine.execBtnSelect f s
  | .btnStart f => Sys2Proof.Machine.execBtnStart f s
  | .btnLStick f => Sys2Proof.Machine.execBtnLStick f s
  | .btnRStick f => Sys2Proof.Machine.execBtnRStick f s
  | .decode f => Sys2Proof.Machine.execDecode f s
  | .remapSideLow raw => Sys2Proof.Machine.execRemapSideLow raw s
  | .remapSideMid => Sys2Proof.Machine.execRemapSideMid s
  | .remapSideHigh raw => Sys2Proof.Machine.execRemapSideHigh raw s
  | .remapMagLow raw => Sys2Proof.Machine.execRemapMagLow raw s
  | .remapMagMid => Sys2Proof.Machine.execRemapMagMid s
  | .remapMagHigh raw => Sys2Proof.Machine.execRemapMagHigh raw s
  | .remapThrustLow raw => Sys2Proof.Machine.execRemapThrustLow raw s
  | .remapThrustMid => Sys2Proof.Machine.execRemapThrustMid s
  | .remapThrustHigh raw => Sys2Proof.Machine.execRemapThrustHigh raw s
  | .remapSteerLow raw => Sys2Proof.Machine.execRemapSteerLow raw s
  | .remapSteerMid => Sys2Proof.Machine.execRemapSteerMid s
  | .remapSteerHigh raw => Sys2Proof.Machine.execRemapSteerHigh raw s
  | .actuate cs => Sys2Proof.Machine.execActuate cs s
  | .sampleOk f => Sys2Proof.Machine.execSampleOk f s
  | .sampleIncomplete len => Sys2Proof.Machine.execSampleIncomplete len s
  | .sampleRefused len => Sys2Proof.Machine.execSampleRefused len s

end Sys2Proof.Machine
end

