-- ==== Sys2Proof/Machine/Fetch.lean ====
section
/-! DEFINITION. What the coming step performs: the block has no program counter (10_state.md R11), its "next
instruction" is the `SAMPLE` row of what stands on the input ports. -/

namespace Sys2Proof.Machine

/-- The instruction of the coming step: none when nothing is presented (R109); otherwise the `SAMPLE` row selected by
`len`, with the frame read whole and at once (R30, R105, R108). -/
def fetch (s : State) : Except Fault (Option Instr) :=
  if s.inValid then
    match readFrame s.frame with
    | .error φ => .error φ
    | .ok f => .ok (some (sampleRow s.len f))
  else .ok none

/-- A table word stored where the coming step finds its instruction: on the input ports, `in_valid` 1
(log 7). -/
def placeTableWord (s : State) (nbits w : Nat) : State :=
  let p := tableInput nbits w
  s.drive { inValid := true, len := p.1, frame := p.2 }

end Sys2Proof.Machine
end

