-- ==== Sys2Proof/Machine/Step.lean ====
section
/-! DEFINITION. One step: one `SAMPLE`, or a step in which nothing is presented (42_sample_step.md R111, R108, R109). -/

namespace Sys2Proof.Machine

/-- The end of a step after an instruction: the environment drives its next input; a stop stays a stop. -/
def finish : Host.Outcome State Fault Refusal → Host.Outcome State Fault Refusal
  | .next t => .next t.presentNext
  | .fault φ => .fault φ
  | .refused ρ => .refused ρ

/-- One step of the block (R111), and then the environment's next input (log 1). -/
def step (s : State) : Host.Outcome State Fault Refusal :=
  match fetch s with
  | .error φ => .fault φ
  | .ok none => .next (s.driveNothing).presentNext
  | .ok (some i) => finish (exec i s)

/-- The state with a table word where the next step fetches (log 7). -/
def State.withFetchWord (s : State) (nbits w : Nat) : State := placeTableWord s nbits w

end Sys2Proof.Machine
end

