-- ==== Sys2Proof/Machine/Flags.lean ====
section
/-! DEFINITION. The block has no flags and no condition codes (10_state.md R12). Its only one-bit signals are the two
strobes of R20, which no operation reads. What each is in a step, as R108 and R109 give it, is written here once as a
function of that step's `in_valid` and `len`; the meanings set the strobes themselves. -/

namespace Sys2Proof.Machine

/-- `out_valid` of a step (R108, R109). -/
def outValidOf (inValid : Bool) (len : Len) : Bool := inValid && (len.toNat == Config.frameBytes)

/-- `err_incomplete` of a step (R108, R109). -/
def errIncompleteOf (inValid : Bool) (len : Len) : Bool := inValid && decide (len.toNat < Config.frameBytes)

end Sys2Proof.Machine
end

