-- ==== Sys2Proof/Machine/Instances.lean ====
section
/-! DEFINITION. Several instances of the block side by side (10_state.md R23, 60_exceptions.md R135): a list of states
that share nothing, of which one is stepped at a time; the order of the steps is the caller's (log 12). The
free values of the instances come from the same functions (log 3). -/

namespace Sys2Proof.Machine

/-- Step the `k`-th instance; a stop of that instance, or an index with no instance, is no step of the system. -/
def stepInstance (sys : List State) (k : Nat) : Option (List State) :=
  match sys[k]? with
  | none => none
  | some s =>
    match step s with
    | .next t => some (sys.set k t)
    | .fault _ => none
    | .refused _ => none

/-- Step instances in the order a schedule gives. -/
def runInstances (sys : List State) : List Nat → Option (List State)
  | [] => some sys
  | k :: ks =>
    match stepInstance sys k with
    | none => none
    | some sys' => runInstances sys' ks

end Sys2Proof.Machine
end

