-- ==== Sys2Proof/Machine/MagnitudeTable.lean ====
section
/-! DEFINITION. The magnitude table printed in 41_axis_remapper.md R96, transcribed as data. The model does not use it:
R96 says that a model defines `REMAP.MAG` by R87 and proves any table equal to it. -/

namespace Sys2Proof.Machine

/-- R96, row by row: the sixteen entries from `raw` = 0xk0 on. -/
def magnitudeRow (k : Nat) : List Nat :=
  match k with
  | 0 => [255, 253, 251, 249, 247, 245, 243, 241, 239, 237, 235, 233, 231, 229, 227, 225]
  | 1 => [223, 221, 219, 217, 215, 213, 211, 209, 207, 205, 203, 201, 199, 197, 195, 193]
  | 2 => [191, 189, 187, 185, 183, 181, 179, 177, 175, 173, 171, 169, 167, 165, 163, 161]
  | 3 => [159, 157, 155, 153, 151, 149, 147, 145, 143, 141, 139, 137, 135, 133, 131, 129]
  | 4 => [127, 125, 123, 121, 119, 117, 115, 113, 111, 109, 107, 105, 103, 101, 99, 97]
  | 5 => [95, 93, 91, 89, 87, 85, 83, 81, 79, 77, 75, 73, 71, 69, 67, 65]
  | 6 => [63, 61, 59, 57, 55, 53, 51, 49, 47, 45, 43, 41, 39, 37, 35, 33]
  | 7 => [31, 29, 27, 25, 23, 21, 19, 17, 15, 13, 11, 9, 7, 5, 3, 1]
  | 8 => [0, 0, 2, 4, 6, 8, 10, 12, 14, 16, 18, 20, 22, 24, 26, 28]
  | 9 => [30, 32, 34, 36, 38, 40, 42, 44, 46, 48, 50, 52, 54, 56, 58, 60]
  | 10 => [62, 64, 66, 68, 70, 72, 74, 76, 78, 80, 82, 85, 87, 89, 91, 93]
  | 11 => [95, 97, 99, 101, 103, 105, 107, 109, 111, 113, 115, 117, 119, 121, 123, 125]
  | 12 => [127, 129, 131, 133, 135, 137, 139, 141, 143, 145, 147, 149, 151, 153, 155, 157]
  | 13 => [159, 161, 163, 165, 167, 170, 172, 174, 176, 178, 180, 182, 184, 186, 188, 190]
  | 14 => [192, 194, 196, 198, 200, 202, 204, 206, 208, 210, 212, 214, 216, 218, 220, 222]
  | 15 => [224, 226, 228, 230, 232, 234, 236, 238, 240, 242, 244, 246, 248, 250, 252, 255]
  | _ => []

/-- The entry of R96's table for an operand. -/
def magnitudeTable (raw : Byte) : Option Nat := (magnitudeRow (raw.toNat / 16))[raw.toNat % 16]?

/-- A check sum of the table's rule (R96): the magnitudes of the operands below `n`. -/
def magnitudeSum : Nat → Nat
  | 0 => 0
  | n + 1 => magnitudeSum n + remapMag (BitVec.ofNat 8 n)

end Sys2Proof.Machine
end

