-- ==== Sys2Proof/Machine/Rows.lean ====
section
/-! DEFINITION. The rows of the table that apply to one frame, and performing several of them one after another. They
are the parts of one `SAMPLE` (R78, R95, R105): "may be evaluated in any order or all at once". -/

namespace Sys2Proof.Machine

/-- The seventeen field operations of `DECODE` (R78), each as the row its frame selects (R53). -/
def fieldRows (f : Frame) : List Instr :=
  [.axisRY f, .axisRX f, .axisLX f, .axisLY f, dpadRow f,
   .btnTriangle f, .btnCircle f, .btnCross f, .btnSquare f,
   .btnL2 f, .btnR2 f, .btnL1 f, .btnR1 f,
   .btnSelect f, .btnStart f, .btnLStick f, .btnRStick f]

/-- The two remaps of `ACTUATE` (R95), each as the row its operand selects. -/
def commandRows (cs : ControlState) : List Instr :=
  [thrustRow (thrustOperand cs), steerRow (steerOperand cs)]

/-- Perform instructions one after another, stopping at the first stop. -/
def execAll : List Instr → State → Host.Outcome State Fault Refusal
  | [], s => .next s
  | i :: is, s =>
    match exec i s with
    | .next t => execAll is t
    | .fault φ => .fault φ
    | .refused ρ => .refused ρ

end Sys2Proof.Machine
end

