-- ==== Sys2Proof/Safety.lean ====
section
/-! DEFINITION. What a good state of the machine is, in the terms the statements use. -/

namespace Sys2Proof.Machine

/-- What the spec says of the ports whenever a result stands on them: only codes that are produced (R48, R49), and
`Straight` never with a non-zero magnitude (R94). -/
def resultPortsLegal (s : State) : Prop :=
  s.outValid = true →
    s.data.dpad.toNat ≤ 4 ∧ s.data.steerDir.toNat ≤ 2 ∧ (s.data.steerDir = 0#2 → s.data.steerMag = 0#8)

/-- The invariant of the block. The frame memory is canonical (log 5); the strobes are never both 1 (R108); a length is
recorded exactly with `IncompleteFrame` and is below 8 (R120, R121); the result ports are legal. -/
structure Inv (s : State) : Prop where
  frameCanonical : Memory.wf s.frame = true
  strobesExclusive : ¬ (s.outValid = true ∧ s.errIncomplete = true)
  lengthWithError : s.errIncomplete = s.incompleteLen.isSome
  lengthShort : ∀ n, s.incompleteLen = some n → n.toNat < 8
  resultPorts : resultPortsLegal s

/-- A conforming input (R112): a reader result of more than 8 bytes is never presented. -/
def conforming (s : State) : Prop := s.inValid = true → s.len.toNat ≤ 8

end Sys2Proof.Machine
end

