-- ==== Sys2Proof/Certificates/Slice0/Obligations.lean ====
section
/-! DEFINITION. The statements for the provers. -/

open Sys2Proof
open Sys2Proof.Machine

/-! ### Encoding -/

/-- R40, R47, R50, R53: the decoder of an operation's group gives back every well-formed instruction from the value the
encoder writes for it, with its operand whole. -/
def Obligations.DecodeOfEncodeIsIdentity : Prop :=
  ∀ i : Instr, WellFormed i → decodeOp (opOf i) (encode i) = .ok i

/-- R53: what the decoder answers is well formed, of the group asked for and of the value's format; where any row of the
group applies to the value, it is the applying row of lowest priority; only a `BTN` row may apply to no value. -/
def Obligations.DecodedRowIsTheWinningRow : Prop :=
  ∀ (op : Operation) (v : TableValue) (i : Instr), decodeOp op v = .ok i →
    WellFormed i ∧ opOf i = op ∧ (tableRow i).format = v.format ∧
    (((rowsOf op).any fun r => r.applies v.number) = true → (tableRow i).wins op v.number = true) ∧
    (((rowsOf op).any fun r => r.applies v.number) = false →
      op ∈ [.btnTriangle, .btnCircle, .btnCross, .btnSquare, .btnL2, .btnR2, .btnL1, .btnR1,
        .btnSelect, .btnStart, .btnLStick, .btnRStick])

/-- R53: the decoder answers on every value of the operation's format and refuses every other by name. -/
def Obligations.DecoderAnswersExactlyItsFormat : Prop :=
  ∀ (op : Operation) (v : TableValue),
    ((∃ i, decodeOp op v = .ok i) ↔ ∀ r ∈ rowsOf op, r.format = v.format) ∧
    ((¬ ∀ r ∈ rowsOf op, r.format = v.format) → decodeOp op v = .error (.wrongFormat op v.format))

/-- R40, R42, R78: a `ControlState` written into a frame is the one decoded from it. The ignored bytes and the code of
`Idle` in the frame written are the model's choice (log 9). -/
def Obligations.DecodeOfEncodedControlState : Prop :=
  ∀ cs : ControlState, decodeFrame (encodeFrame cs) = cs

/-- What R79 infers from R78, R40 and R42 (its mark: derived): bytes 0 and 7 have no effect; two frames that differ in
any of bits 8 to 55 decode differently, except where the difference is confined to the D-pad nibble and both nibbles
decode to `Idle`. -/
def Obligations.DecodeSeparatesFrames : Prop :=
  (∀ f g : Frame, (∀ k, 1 ≤ k → k ≤ 6 → frameByte f k = frameByte g k) → decodeFrame f = decodeFrame g) ∧
  (∀ f g : Frame, (∃ i, 8 ≤ i ∧ i ≤ 55 ∧ frameBit f i ≠ frameBit g i) →
    (decodeFrame f = decodeFrame g ↔
      (∀ i, 8 ≤ i → i ≤ 55 → frameBit f i ≠ frameBit g i → 40 ≤ i ∧ i ≤ 43) ∧
      (decodeFrame f).dpad = .idle ∧ (decodeFrame g).dpad = .idle))

/-- R81: the absolute bit index and the (byte, mask) pair are one Boolean for every frame and every bit; each button by
the pairs of R41. -/
def Obligations.ButtonBitIndexAgreesWithByteMask : Prop :=
  (∀ (f : Frame) (k j : Nat), k < 8 → j < 8 →
    (frameBit f (8 * k + j) = true ↔ frameByte f k &&& BitVec.ofNat 8 (2 ^ j) ≠ 0#8)) ∧
  (∀ f : Frame,
    decodeFrame f =
      { decodeFrame f with
        face :=
          { triangle := decide (frameByte f 5 &&& 0x10#8 ≠ 0#8), circle := decide (frameByte f 5 &&& 0x20#8 ≠ 0#8),
            cross := decide (frameByte f 5 &&& 0x40#8 ≠ 0#8), square := decide (frameByte f 5 &&& 0x80#8 ≠ 0#8) }
        shoulder :=
          { l2 := decide (frameByte f 6 &&& 0x01#8 ≠ 0#8), r2 := decide (frameByte f 6 &&& 0x02#8 ≠ 0#8),
            l1 := decide (frameByte f 6 &&& 0x04#8 ≠ 0#8), r1 := decide (frameByte f 6 &&& 0x08#8 ≠ 0#8) }
        menu :=
          { select := decide (frameByte f 6 &&& 0x10#8 ≠ 0#8), start := decide (frameByte f 6 &&& 0x20#8 ≠ 0#8),
            leftStickClick := decide (frameByte f 6 &&& 0x40#8 ≠ 0#8),
            rightStickClick := decide (frameByte f 6 &&& 0x80#8 ≠ 0#8) } })

/-- R82, with 90_conflicts.md C4: the frame with axes 128, nibble 0xF and only the `i`-th of the button bits 44 to 55
set, whatever bytes 0 and 7 are, decodes to exactly that button true. -/
def Obligations.SingleButtonFrameRoundTrip : Prop :=
  ∀ (b0 b7 : Byte) (i : Nat), i < 12 →
    decodeFrame (frameOfBytes
      [b0, 0x80, 0x80, 0x80, 0x80, 0x0F ||| BitVec.ofNat 8 (2 ^ (4 + i)), BitVec.ofNat 8 (2 ^ (4 + i) / 256), b7]) =
    { rightStickY := 128, rightStickX := 128, leftStickX := 128, leftStickY := 128, dpad := .idle
      face := { triangle := decide (i = 0), circle := decide (i = 1), cross := decide (i = 2), square := decide (i = 3) }
      shoulder := { l2 := decide (i = 4), r2 := decide (i = 5), l1 := decide (i = 6), r1 := decide (i = 7) }
      menu := { select := decide (i = 8), start := decide (i = 9), leftStickClick := decide (i = 10),
                rightStickClick := decide (i = 11) } }

/-- Words written out from 95_test_vectors.md decode to the instruction they stand for. -/
def Obligations.DecodeOfWrittenWords : Prop :=
  decode [0x01, 0x80, 0xFF, 0x80, 0x00, 0x0F, 0x00, 0xF0] = .ok (.sampleOk 0xF0000F0080FF8001#64) ∧
  decode [0x01, 0x80, 0xFF] = .ok (.sampleIncomplete 3) ∧
  decode [0x01, 0x80, 0x80, 0x80, 0x80, 0x0F, 0x00, 0xF0, 0x00] = .ok (.sampleRefused 9) ∧
  decodeOp .dpad (.frame64 0xF000098080808001#64) = .ok (.dpadN9 0xF000098080808001#64) ∧
  decodeOp .remapSteer (.raw8 0x80#8) = .ok .remapSteerMid ∧
  decodeOp .remapThrust (.raw8 0x81#8) = .ok (.remapThrustHigh 0x81#8)

/-! ### FrameDecoder -/

/-- R61 to R64: each axis port takes its own byte of the frame, read off the frame number (R7), and nothing else
changes. Covers `axisRY`, `axisRX`, `axisLX`, `axisLY`. -/
def Obligations.AxisInstructionsCopyTheirByte : Prop :=
  ∀ (f : Frame) (s : State),
    exec (.axisRY f) s =
      .next { s with data := { s.data with rightStickY := BitVec.ofNat 8 (f.toNat / 2 ^ 8 % 256) } } ∧
    exec (.axisRX f) s =
      .next { s with data := { s.data with rightStickX := BitVec.ofNat 8 (f.toNat / 2 ^ 16 % 256) } } ∧
    exec (.axisLX f) s =
      .next { s with data := { s.data with leftStickX := BitVec.ofNat 8 (f.toNat / 2 ^ 24 % 256) } } ∧
    exec (.axisLY f) s =
      .next { s with data := { s.data with leftStickY := BitVec.ofNat 8 (f.toNat / 2 ^ 32 % 256) } }

/-- R42, R48, the sixteen `DPAD` rows: each puts its own value's code on the `dpad` port and changes nothing else;
on a frame that the row does not carry this is the model's own (log 6).
Covers `dpadN0` to `dpadN9` and `dpadNA` to `dpadNF`. -/
def Obligations.DpadRowsGiveTheirTableValue : Prop :=
  ∀ (f : Frame) (s : State),
    exec (.dpadN0 f) s = .next { s with data := { s.data with dpad := 0 } } ∧
    exec (.dpadN2 f) s = .next { s with data := { s.data with dpad := 1 } } ∧
    exec (.dpadN4 f) s = .next { s with data := { s.data with dpad := 2 } } ∧
    exec (.dpadN6 f) s = .next { s with data := { s.data with dpad := 3 } } ∧
    exec (.dpadN1 f) s = .next { s with data := { s.data with dpad := 4 } } ∧
    exec (.dpadN3 f) s = .next { s with data := { s.data with dpad := 4 } } ∧
    exec (.dpadN5 f) s = .next { s with data := { s.data with dpad := 4 } } ∧
    exec (.dpadN7 f) s = .next { s with data := { s.data with dpad := 4 } } ∧
    exec (.dpadN8 f) s = .next { s with data := { s.data with dpad := 4 } } ∧
    exec (.dpadN9 f) s = .next { s with data := { s.data with dpad := 4 } } ∧
    exec (.dpadNA f) s = .next { s with data := { s.data with dpad := 4 } } ∧
    exec (.dpadNB f) s = .next { s with data := { s.data with dpad := 4 } } ∧
    exec (.dpadNC f) s = .next { s with data := { s.data with dpad := 4 } } ∧
    exec (.dpadND f) s = .next { s with data := { s.data with dpad := 4 } } ∧
    exec (.dpadNE f) s = .next { s with data := { s.data with dpad := 4 } } ∧
    exec (.dpadNF f) s = .next { s with data := { s.data with dpad := 4 } }

/-- R65: the row that a frame selects gives the value of the rule's own selection on the nibble `n`, `F.byte[5][3:0]`,
and changes nothing else. -/
def Obligations.DpadOfAFrame : Prop :=
  ∀ (f : Frame) (s : State), ∃ i, decodeOp .dpad (.frame64 f) = .ok i ∧
    exec i s = .next { s with data := { s.data with dpad :=
      (let n := (frameByte f 5).toNat % 16
       dpadCode (if n = 0x0 then .up else if n = 0x2 then .right else if n = 0x4 then .down
         else if n = 0x6 then .left else .idle)) } }

/-- R66 to R69: each face button goes to its own bit of the `face` port, as its byte and mask give it; the three other
bits and the rest of the state stay. The lines 0 to 3 of the port are those of R20 and R48, the spec's decision D10.
Covers `btnTriangle`, `btnCircle`, `btnCross`, `btnSquare`. -/
def Obligations.FaceButtonInstructions : Prop :=
  ∀ (f : Frame) (s : State),
    (∃ t, exec (.btnTriangle f) s = .next t ∧ t = { s with data := { s.data with face := t.data.face } } ∧
      ∀ j, j < 4 → t.data.face.getLsbD j =
        if j = 0 then decide (frameByte f 5 &&& 0x10#8 ≠ 0#8) else s.data.face.getLsbD j) ∧
    (∃ t, exec (.btnCircle f) s = .next t ∧ t = { s with data := { s.data with face := t.data.face } } ∧
      ∀ j, j < 4 → t.data.face.getLsbD j =
        if j = 1 then decide (frameByte f 5 &&& 0x20#8 ≠ 0#8) else s.data.face.getLsbD j) ∧
    (∃ t, exec (.btnCross f) s = .next t ∧ t = { s with data := { s.data with face := t.data.face } } ∧
      ∀ j, j < 4 → t.data.face.getLsbD j =
        if j = 2 then decide (frameByte f 5 &&& 0x40#8 ≠ 0#8) else s.data.face.getLsbD j) ∧
    (∃ t, exec (.btnSquare f) s = .next t ∧ t = { s with data := { s.data with face := t.data.face } } ∧
      ∀ j, j < 4 → t.data.face.getLsbD j =
        if j = 3 then decide (frameByte f 5 &&& 0x80#8 ≠ 0#8) else s.data.face.getLsbD j)

/-- R70 to R73, L2 before L1: each shoulder button goes to its own bit of the `shoulder` port; the rest stays. The
lines 0 to 3 of the port are those of R20 and R48, the spec's decision D10. Covers `btnL2`, `btnR2`, `btnL1`, `btnR1`.
-/
def Obligations.ShoulderButtonInstructions : Prop :=
  ∀ (f : Frame) (s : State),
    (∃ t, exec (.btnL2 f) s = .next t ∧ t = { s with data := { s.data with shoulder := t.data.shoulder } } ∧
      ∀ j, j < 4 → t.data.shoulder.getLsbD j =
        if j = 0 then decide (frameByte f 6 &&& 0x01#8 ≠ 0#8) else s.data.shoulder.getLsbD j) ∧
    (∃ t, exec (.btnR2 f) s = .next t ∧ t = { s with data := { s.data with shoulder := t.data.shoulder } } ∧
      ∀ j, j < 4 → t.data.shoulder.getLsbD j =
        if j = 1 then decide (frameByte f 6 &&& 0x02#8 ≠ 0#8) else s.data.shoulder.getLsbD j) ∧
    (∃ t, exec (.btnL1 f) s = .next t ∧ t = { s with data := { s.data with shoulder := t.data.shoulder } } ∧
      ∀ j, j < 4 → t.data.shoulder.getLsbD j =
        if j = 2 then decide (frameByte f 6 &&& 0x04#8 ≠ 0#8) else s.data.shoulder.getLsbD j) ∧
    (∃ t, exec (.btnR1 f) s = .next t ∧ t = { s with data := { s.data with shoulder := t.data.shoulder } } ∧
      ∀ j, j < 4 → t.data.shoulder.getLsbD j =
        if j = 3 then decide (frameByte f 6 &&& 0x08#8 ≠ 0#8) else s.data.shoulder.getLsbD j)

/-- R74 to R77: each menu button goes to its own bit of the `menu` port; the rest stays. The lines 0 to 3 of
the port are those of R20 and R48, the spec's decision D10. Covers `btnSelect`, `btnStart`, `btnLStick`, `btnRStick`. -/
def Obligations.MenuButtonInstructions : Prop :=
  ∀ (f : Frame) (s : State),
    (∃ t, exec (.btnSelect f) s = .next t ∧ t = { s with data := { s.data with menu := t.data.menu } } ∧
      ∀ j, j < 4 → t.data.menu.getLsbD j =
        if j = 0 then decide (frameByte f 6 &&& 0x10#8 ≠ 0#8) else s.data.menu.getLsbD j) ∧
    (∃ t, exec (.btnStart f) s = .next t ∧ t = { s with data := { s.data with menu := t.data.menu } } ∧
      ∀ j, j < 4 → t.data.menu.getLsbD j =
        if j = 1 then decide (frameByte f 6 &&& 0x20#8 ≠ 0#8) else s.data.menu.getLsbD j) ∧
    (∃ t, exec (.btnLStick f) s = .next t ∧ t = { s with data := { s.data with menu := t.data.menu } } ∧
      ∀ j, j < 4 → t.data.menu.getLsbD j =
        if j = 2 then decide (frameByte f 6 &&& 0x40#8 ≠ 0#8) else s.data.menu.getLsbD j) ∧
    (∃ t, exec (.btnRStick f) s = .next t ∧ t = { s with data := { s.data with menu := t.data.menu } } ∧
      ∀ j, j < 4 → t.data.menu.getLsbD j =
        if j = 3 then decide (frameByte f 6 &&& 0x80#8 ≠ 0#8) else s.data.menu.getLsbD j)

/-- R78, R108: `DECODE` puts the frame's own slices on the axis and button ports and the code of its D-pad value on
`dpad`; the command ports and the rest of the state stay. Covers `decode`. -/
def Obligations.DecodeInstructionPutsTheSlices : Prop :=
  ∀ (f : Frame) (s : State),
    exec (.decode f) s = .next { s with data := { s.data with
      rightStickY := f.extractLsb' 8 8
      rightStickX := f.extractLsb' 16 8
      leftStickX := f.extractLsb' 24 8
      leftStickY := f.extractLsb' 32 8
      dpad := dpadCode (decodeFrame f).dpad
      face := f.extractLsb' 44 4
      shoulder := f.extractLsb' 48 4
      menu := f.extractLsb' 52 4 } }

/-- R78: the seventeen field operations of a frame, performed in any order, are `DECODE`. Performing
them one after another is the model's (log 6). -/
def Obligations.FieldRowsInAnyOrderAreDecode : Prop :=
  ∀ (f : Frame) (s : State) (rows : List Instr), rows.Perm (fieldRows f) → execAll rows s = exec (.decode f) s

/-! ### AxisRemapper -/

/-- R86: the row that an operand selects gives its side and changes nothing else; and each row on the operands of its
range. Covers `remapSideLow`, `remapSideMid`, `remapSideHigh`. -/
def Obligations.SideOfAnOperand : Prop :=
  (∀ (raw : Byte) (s : State), ∃ i, decodeOp .remapSide (.raw8 raw) = .ok i ∧
    exec i s = .next { s with side := if raw.toNat ≤ 128 then .low else .high }) ∧
  (∀ (raw : Byte) (s : State), raw.toNat ≤ 127 → exec (.remapSideLow raw) s = .next { s with side := .low }) ∧
  (∀ s : State, exec .remapSideMid s = .next { s with side := .low }) ∧
  (∀ (raw : Byte) (s : State), 129 ≤ raw.toNat → exec (.remapSideHigh raw) s = .next { s with side := .high })

/-- R87: the row that an operand selects gives the magnitude of the rule's formula, on 8 bits and without loss, and
changes nothing else. -/
def Obligations.MagnitudeOfAnOperand : Prop :=
  ∀ (raw : Byte) (s : State), ∃ i t, decodeOp .remapMag (.raw8 raw) = .ok i ∧ exec i s = .next t ∧
    t = { s with magnitude := t.magnitude } ∧
    t.magnitude.toNat =
      if raw.toNat ≤ 128 then ((128 - raw.toNat) * 255) / 128 else ((raw.toNat - 129) * 255) / 126

/-- R89, the closed forms, row by row: `255 - 2*raw` for raw 0 to 127, 0 for 128, `2*d + d/42` with `d = raw - 129` for
raw 129 to 255; nothing else changes. Covers `remapMagLow`, `remapMagMid`, `remapMagHigh`. -/
def Obligations.MagnitudeRowsHaveTheirClosedForms : Prop :=
  (∀ (raw : Byte) (s : State), raw.toNat ≤ 127 →
    exec (.remapMagLow raw) s = .next { s with magnitude := BitVec.ofNat 8 (255 - 2 * raw.toNat) }) ∧
  (∀ s : State, exec .remapMagMid s = .next { s with magnitude := 0 }) ∧
  (∀ (raw : Byte) (s : State), 129 ≤ raw.toNat →
    exec (.remapMagHigh raw) s =
      .next { s with magnitude := BitVec.ofNat 8 (2 * (raw.toNat - 129) + (raw.toNat - 129) / 42) })

/-- R93: the row that an operand selects gives `Forward` (0) for raw up to 128 and `Reverse` (1) above, with the
magnitude of R87; nothing else changes; each row on the operands of its range, in the closed forms that R89 infers
from R87; `ACTUATE` takes the operand from left stick Y (R95). The codes are R49's, the spec's decision D9. Covers
`remapThrustLow`, `remapThrustMid`, `remapThrustHigh`. -/
def Obligations.ThrustOfAnOperand : Prop :=
  (∀ (raw : Byte) (s : State), ∃ i t, decodeOp .remapThrust (.raw8 raw) = .ok i ∧ exec i s = .next t ∧
    t = { s with data := { s.data with
      thrustDir := (if raw.toNat ≤ 128 then 0 else 1)
      thrustMag := t.data.thrustMag } } ∧
    t.data.thrustMag.toNat =
      if raw.toNat ≤ 128 then ((128 - raw.toNat) * 255) / 128 else ((raw.toNat - 129) * 255) / 126) ∧
  (∀ (raw : Byte) (s : State), raw.toNat ≤ 127 →
    exec (.remapThrustLow raw) s = .next { s with data := { s.data with
      thrustDir := 0, thrustMag := BitVec.ofNat 8 (255 - 2 * raw.toNat) } }) ∧
  (∀ s : State, exec .remapThrustMid s = .next { s with data := { s.data with thrustDir := 0, thrustMag := 0 } }) ∧
  (∀ (raw : Byte) (s : State), 129 ≤ raw.toNat →
    exec (.remapThrustHigh raw) s = .next { s with data := { s.data with
      thrustDir := 1, thrustMag := BitVec.ofNat 8 (2 * (raw.toNat - 129) + (raw.toNat - 129) / 42) } }) ∧
  (∀ (cs : ControlState) (s : State), ∃ i t u, decodeOp .remapThrust (.raw8 cs.leftStickY) = .ok i ∧
    exec i s = .next t ∧ exec (.actuate cs) s = .next u ∧
    u.data.thrustDir = t.data.thrustDir ∧ u.data.thrustMag = t.data.thrustMag)

/-- R94: the row that an operand selects gives `Straight` (0) for raw 128 and no other, `Left` (1) below, `Right` (2)
above, with the magnitude of R87; nothing else changes; each row on the operands of its range, in the closed
forms that R89 infers from R87; `ACTUATE` takes the operand from right stick X (R95). The codes are R49's, the spec's
decision D9. Covers `remapSteerLow`, `remapSteerMid`, `remapSteerHigh`. -/
def Obligations.SteerOfAnOperand : Prop :=
  (∀ (raw : Byte) (s : State), ∃ i t, decodeOp .remapSteer (.raw8 raw) = .ok i ∧ exec i s = .next t ∧
    t = { s with data := { s.data with
      steerDir := (if raw.toNat = 128 then 0 else if raw.toNat < 128 then 1 else 2)
      steerMag := t.data.steerMag } } ∧
    t.data.steerMag.toNat =
      if raw.toNat ≤ 128 then ((128 - raw.toNat) * 255) / 128 else ((raw.toNat - 129) * 255) / 126) ∧
  (∀ (raw : Byte) (s : State), raw.toNat ≤ 127 →
    exec (.remapSteerLow raw) s = .next { s with data := { s.data with
      steerDir := 1, steerMag := BitVec.ofNat 8 (255 - 2 * raw.toNat) } }) ∧
  (∀ s : State, exec .remapSteerMid s = .next { s with data := { s.data with steerDir := 0, steerMag := 0 } }) ∧
  (∀ (raw : Byte) (s : State), 129 ≤ raw.toNat →
    exec (.remapSteerHigh raw) s = .next { s with data := { s.data with
      steerDir := 2, steerMag := BitVec.ofNat 8 (2 * (raw.toNat - 129) + (raw.toNat - 129) / 42) } }) ∧
  (∀ (cs : ControlState) (s : State), ∃ i t u, decodeOp .remapSteer (.raw8 cs.rightStickX) = .ok i ∧
    exec i s = .next t ∧ exec (.actuate cs) s = .next u ∧
    u.data.steerDir = t.data.steerDir ∧ u.data.steerMag = t.data.steerMag)

/-- R95: `ACTUATE` puts thrust from left stick Y and steering from right stick X on the four command ports; no other
field of the operand enters and nothing else changes. Covers `actuate`. -/
def Obligations.ActuateInstruction : Prop :=
  ∀ (cs : ControlState) (s : State), ∃ t, exec (.actuate cs) s = .next t ∧
    t = { s with data := { s.data with
      thrustMag := t.data.thrustMag
      thrustDir := (if cs.leftStickY.toNat ≤ 128 then 0 else 1)
      steerMag := t.data.steerMag
      steerDir := (if cs.rightStickX.toNat = 128 then 0 else if cs.rightStickX.toNat < 128 then 1 else 2) } } ∧
    t.data.thrustMag.toNat =
      (if cs.leftStickY.toNat ≤ 128 then ((128 - cs.leftStickY.toNat) * 255) / 128
       else ((cs.leftStickY.toNat - 129) * 255) / 126) ∧
    t.data.steerMag.toNat =
      (if cs.rightStickX.toNat ≤ 128 then ((128 - cs.rightStickX.toNat) * 255) / 128
       else ((cs.rightStickX.toNat - 129) * 255) / 126)

/-- R95: the two remaps, performed in either order, are `ACTUATE`. Performing them one after another is the model's
(log 6). -/
def Obligations.CommandRowsInEitherOrderAreActuate : Prop :=
  ∀ (cs : ControlState) (s : State) (rows : List Instr), rows.Perm (commandRows cs) →
    execAll rows s = exec (.actuate cs) s

/-- R98 (a) to (d) and (f): range, monotone on each side, the two zeros, the two maxima; thrust and steering carry equal
magnitudes for equal operands. -/
def Obligations.MagnitudeProperties : Prop :=
  (∀ raw : Byte, remapMag raw ≤ 255) ∧
  (∀ a b : Byte, a.toNat ≤ b.toNat → b.toNat ≤ 128 → remapMag b ≤ remapMag a) ∧
  (∀ a b : Byte, 129 ≤ a.toNat → a.toNat ≤ b.toNat → remapMag a ≤ remapMag b) ∧
  (∀ raw : Byte, remapMag raw = 0 ↔ raw.toNat = 128 ∨ raw.toNat = 129) ∧
  (∀ raw : Byte, remapMag raw = 255 ↔ raw.toNat = 0 ∨ raw.toNat = 255) ∧
  (∀ cs : ControlState, cs.leftStickY = cs.rightStickX →
    (actuate cs).thrustMagnitude = (actuate cs).steerMagnitude)

/-- R88 (b), (g) and R92: the products fit 15 bits, so a 15-bit register forms them without wrap; the low-side division
is a right shift by 7; and the clamp to 0 to 255, over the integers, is the identity on both branches. -/
def Obligations.MagnitudeArithmetic : Prop :=
  (∀ raw : Byte, raw.toNat ≤ 128 →
    (128 - raw.toNat) * 255 < 2 ^ 15 ∧
    remapMag raw = ((BitVec.ofNat 15 (128 - raw.toNat) * BitVec.ofNat 15 255) >>> 7).toNat ∧
    (remapMag raw : Int) = min 255 (max 0 ((128 - (raw.toNat : Int)) * 255 / 128))) ∧
  (∀ raw : Byte, 129 ≤ raw.toNat →
    (raw.toNat - 129) * 255 < 2 ^ 15 ∧
    remapMag raw = (BitVec.ofNat 15 (raw.toNat - 129) * BitVec.ofNat 15 255).toNat / 126 ∧
    (remapMag raw : Int) = min 255 (max 0 (((raw.toNat : Int) - 129) * 255 / 126)))

/-- R90: the points the source pins. -/
def Obligations.PinnedPoints : Prop :=
  (remapMag 0 = 255 ∧ remapSide 0 = .low) ∧
  (remapMag 128 = 0 ∧ remapSide 128 = .low ∧ thrustDirection 128 = .forward ∧ steerDirection 128 = .straight) ∧
  (remapMag 129 = 0 ∧ remapSide 129 = .high) ∧
  (remapMag 255 = 255 ∧ remapSide 255 = .high) ∧
  actuate (decodeFrame 0xF0000F8080808001#64) =
    { thrustMagnitude := 0, thrustDirection := .forward, steerMagnitude := 0, steerDirection := .straight } ∧
  (∀ cs : ControlState, cs.rightStickX = 255 →
    (actuate cs).steerDirection = .right ∧ (actuate cs).steerMagnitude = 255) ∧
  (∀ cs : ControlState, cs.leftStickY = 0 →
    (actuate cs).thrustDirection = .forward ∧ (actuate cs).thrustMagnitude = 255)

/-- R96: the printed 256-entry table is the magnitude of R87, and its check sums are those of the rule. -/
def Obligations.MagnitudeTableIsTheFormula : Prop :=
  (∀ raw : Byte, magnitudeTable raw = some (remapMag raw)) ∧
  magnitudeSum 129 = 16384 ∧ magnitudeSum 256 = 32515 ∧ magnitudeSum 256 - magnitudeSum 129 = 16131

/-! ### The sample -/

/-- R105, R108: a valid sample raises `out_valid`, clears the error, and puts the whole of both results on the data
ports, the axes and buttons as the frame's own slices; the inputs stay. That the two results no port carries, `side`
and `magnitude`, stay is the model's choice (log 4), and so is the recorded length, of which there is none (log 10).
Covers `sampleOk`. -/
def Obligations.SampleOkInstruction : Prop :=
  ∀ (f : Frame) (s : State),
    exec (.sampleOk f) s = .next { s with
      outValid := true
      errIncomplete := false
      incompleteLen := none
      data :=
        { rightStickY := f.extractLsb' 8 8
          rightStickX := f.extractLsb' 16 8
          leftStickX := f.extractLsb' 24 8
          leftStickY := f.extractLsb' 32 8
          dpad := dpadCode (decodeFrame f).dpad
          face := f.extractLsb' 44 4
          shoulder := f.extractLsb' 48 4
          menu := f.extractLsb' 52 4
          thrustMag := BitVec.ofNat 8 (remapMag (f.extractLsb' 32 8))
          thrustDir := if (f.extractLsb' 32 8).toNat ≤ 128 then 0 else 1
          steerMag := BitVec.ofNat 8 (remapMag (f.extractLsb' 16 8))
          steerDir :=
            if (f.extractLsb' 16 8).toNat = 128 then 0 else if (f.extractLsb' 16 8).toNat < 128 then 1 else 2 } }

/-- R108, R120, R121, `len` 0 to 7: the error strobe alone is up and `n` is recorded (log 10); the data ports may take
any value (nothing is said of them) and everything else stays. That `side` and `magnitude`, which no port carries,
stay is the model's choice (log 4). Covers `sampleIncomplete`. -/
def Obligations.SampleIncompleteInstruction : Prop :=
  ∀ (len : Len) (s : State), len.toNat < 8 → ∃ t, exec (.sampleIncomplete len) s = .next t ∧
    t = { s with
      outValid := false
      errIncomplete := true
      incompleteLen := some len
      data := t.data
      freeCount := t.freeCount }

/-- R122, `len` 9 to 15: the model refuses the step, by its own name and with no result. Covers `sampleRefused`. -/
def Obligations.SampleRefusedInstruction : Prop :=
  ∀ (len : Len) (s : State), 8 < len.toNat → exec (.sampleRefused len) s = .refused (.overlongRead len)

/-- R78, R95, R105: one `SAMPLE` of a frame is its nineteen rows performed in any order, and the strobe. Performing
them one after another is the model's (log 6), and so is the recorded length, of which there is none (log 10). That
`SAMPLE` leaves `side` and `magnitude` as they were, though R52 has it perform `REMAP.SIDE` and `REMAP.MAG`, is the
model's choice (log 4). -/
def Obligations.SampleIsItsRowsInAnyOrder : Prop :=
  ∀ (f : Frame) (s : State) (rows : List Instr),
    rows.Perm (fieldRows f ++ commandRows (decodeFrame f)) →
    ∃ t, execAll rows s = .next t ∧
      exec (.sampleOk f) s = .next { t with outValid := true, errIncomplete := false, incompleteLen := none }

/-! ### The step -/

/-- R105, R111: when a reader result stands on the input ports, the step performs the instruction its bytes decode to,
which is well formed, and then the environment drives its next input (the schedule is the model's own, log 1). -/
def Obligations.StepRunsTheDecodedInstruction : Prop :=
  (∀ (s : State) (f : Frame), s.inValid = true → readFrame s.frame = .ok f →
    WellFormed (sampleRow s.len f) ∧
    step s = match exec (sampleRow s.len f) s with
      | .next t => .next t.presentNext
      | .fault φ => .fault φ
      | .refused ρ => .refused ρ) ∧
  (∀ (s : State) (bytes : List Byte) (i : Instr), decode bytes = .ok i →
    WellFormed i ∧
    step (s.drive (PortIn.ofReader bytes)) = match exec i (s.drive (PortIn.ofReader bytes)) with
      | .next t => .next t.presentNext
      | .fault φ => .fault φ
      | .refused ρ => .refused ρ) ∧
  (∀ s : State,
    (s.upcoming = [] → s.presentNext = s.drive PortIn.nothing) ∧
    (∀ p rest, s.upcoming = p :: rest → s.presentNext = { s.drive p with upcoming := rest }))

/-- R16, R105, R121, R122: what one presented reader result of any length hands back, by its number of bytes. That the
error carries `n` (log 10) and that `len` reads 15 for a read of more than 15 bytes (log 11) is the model's choice. -/
def Obligations.SampleOfAReaderResult : Prop :=
  ∀ (s : State) (bytes : List Byte),
    (bytes.length < 8 → ∃ t, step (s.drive (PortIn.ofReader bytes)) = .next t ∧
      t.outcome = some (.incompleteFrame bytes.length)) ∧
    (bytes.length = 8 → ∃ t, step (s.drive (PortIn.ofReader bytes)) = .next t ∧
      t.outcome = some (.decoded (decodeFrame (frameOfBytes bytes)) (actuate (decodeFrame (frameOfBytes bytes))))) ∧
    (8 < bytes.length →
      sample bytes = .refused ∧
      step (s.drive (PortIn.ofReader bytes)) = .refused (.overlongRead (BitVec.ofNat 4 (min bytes.length 15))))

/-- R121, R127: a short read is the error alone, whatever stands on `frame`: no `ControlState` and no `ActuatorCommand`
exists for that sample, and the length recorded (log 10) is the one delivered. -/
def Obligations.ShortReadIsTheErrorAlone : Prop :=
  ∀ s : State, s.inValid = true → s.len.toNat < 8 → ∃ t, step s = .next t ∧
    t.outValid = false ∧ t.errIncomplete = true ∧ t.controlState? = none ∧ t.command? = none ∧
    t.outcome = some (.incompleteFrame s.len.toNat)

/-- R109: a step in which nothing is presented completes with both strobes down and no outcome held over.
That there is no recorded length (log 10) and that `side` and `magnitude`, which no port carries, stay as they were
(log 4) is the model's choice. -/
def Obligations.StepWithNothingPresented : Prop :=
  ∀ s : State, s.inValid = false → ∃ t, step s = .next t ∧
    t.outValid = false ∧ t.errIncomplete = false ∧ t.incompleteLen = none ∧ t.outcome = none ∧
    t.side = s.side ∧ t.magnitude = s.magnitude

/-- R108, R109, R129: the strobes of a step are decided by that step's `in_valid` and `len` alone. -/
def Obligations.StrobesFollowTheInputPorts : Prop :=
  ∀ s t : State, step s = .next t →
    t.outValid = outValidOf s.inValid s.len ∧ t.errIncomplete = errIncompleteOf s.inValid s.len

/-- R45, R124: every frame is decoded; a nibble outside the table gives `Idle` with `out_valid` 1 and no error. The
recorded length, of which there is none, is the model's (log 10). -/
def Obligations.UndefinedNibbleIsSilentlyIdle : Prop :=
  ∀ (s : State) (f : Frame), s.inValid = true → s.len.toNat = 8 → readFrame s.frame = .ok f →
    ∃ t, step s = .next t ∧ t.outValid = true ∧ t.errIncomplete = false ∧ t.incompleteLen = none ∧
      ((dpadNibble f).toNat ∉ [0x0, 0x2, 0x4, 0x6] → t.data.dpad = dpadCode .idle)

/-- R122, R125, R29: no step faults, and a step is refused exactly when a reader result longer than 8 bytes is
presented. -/
def Obligations.StepStopsOnlyOnALongRead : Prop :=
  ∀ s : State, (∀ φ, step s ≠ .fault φ) ∧
    (∀ ρ, step s = .refused ρ ↔ s.inValid = true ∧ 8 < s.len.toNat ∧ ρ = .overlongRead s.len)

/-- R15, R33 (a), R44, R46, R110: what a step hands back depends on that step's `in_valid`, `len` and, of a full read,
bytes 1 to 6 alone: two states that agree there and nowhere else give the same outcome, or both stop. That an error's
outcome carries its length is the model's choice (log 10). -/
def Obligations.OutcomeDependsOnTheSampleAlone : Prop :=
  ∀ s s' : State, s.inValid = s'.inValid → (s.inValid = true → s.len = s'.len) →
    (s.inValid = true → s.len.toNat = 8 → ∀ k, 1 ≤ k → k ≤ 6 → readByte s.frame k = readByte s'.frame k) →
    (∀ t, step s = .next t → ∃ t', step s' = .next t' ∧ t'.outcome = t.outcome ∧
      t'.outValid = t.outValid ∧ t'.errIncomplete = t.errIncomplete) ∧
    (∀ ρ, step s = .refused ρ → step s' = .refused ρ)

/-- R110, R113: the outcome of a run is the element-wise map of `SAMPLE` over its reader results, from any state: after
`k + 1` steps the caller holds the outcome of the `k`-th. The schedule is the model's (log 1), and so is that
an error carries its length (log 10). -/
def Obligations.RunIsTheMapOfSample : Prop :=
  ∀ (s : State) (run : List (List Byte)) (k : Nat) (bytes : List Byte),
    (∀ b ∈ run, b.length ≤ 8) → run[k]? = some bytes →
    ∃ t : State, Host.Core.run Sys2Proof.core (k + 1) (s.withRun run) = .next t ∧ t.outcome = some (sample bytes)

/-- R122: a run stops, refused, at its first reader result of more than 8 bytes, whatever its length. The schedule is
the model's (log 1), and so is the `len` that stands for more than 15 bytes (log 11). -/
def Obligations.RunStopsAtALongRead : Prop :=
  ∀ (s : State) (run : List (List Byte)) (k : Nat) (bytes : List Byte),
    (∀ b ∈ run.take k, b.length ≤ 8) → run[k]? = some bytes → 8 < bytes.length →
    Host.Core.run Sys2Proof.core (k + 1) (s.withRun run) =
      .refused (.overlongRead (BitVec.ofNat 4 (min bytes.length 15)))

/-- The invariant `Inv` (R48, R49, R94, R108, R120, R121; the canonical frame memory is the model's, log 5, and so is
the recorded length, log 10) is kept by every step. -/
def Obligations.StepKeepsTheInvariant : Prop :=
  ∀ s t : State, Inv s → step s = .next t → Inv t

/-- R21, R140: what reset leaves. The strobes are 0, nothing is presented and no result exists; the invariant holds
(that the frame port reads 0 is the model's choice, log 5). The invariant's clauses on the recorded length are the
model's too (log 10). -/
def Obligations.ResetState : Prop :=
  State.reset.inValid = false ∧ State.reset.outValid = false ∧ State.reset.errIncomplete = false ∧
  State.reset.outcome = none ∧ Inv State.reset

/-- R28: no instruction writes the frame or any input: every byte of the address space reads as before. The schedule
`upcoming` is the model's (log 1). -/
def Obligations.InstructionsDoNotWriteTheFrame : Prop :=
  ∀ (i : Instr) (s t : State), exec i s = .next t →
    (∀ a, readByte t.frame a = readByte s.frame a) ∧
    t.inValid = s.inValid ∧ t.len = s.len ∧ t.upcoming = s.upcoming

/-! ### Ports, bits and bytes -/

/-- R48, R49: the codes on the enumerated ports, the codes never produced, and the button ports bit by bit. -/
def Obligations.PortCodes : Prop :=
  (∀ d : Dpad, (dpadCode d).toNat ≤ 4 ∧ dpadOfCode (dpadCode d) = some d) ∧
  (dpadCode .up = 0 ∧ dpadCode .right = 1 ∧ dpadCode .down = 2 ∧ dpadCode .left = 3 ∧ dpadCode .idle = 4) ∧
  (∀ f : Frame, (dpadNibble f).toNat ∈ [0x0, 0x2, 0x4, 0x6] →
    dpadCode (decodeFrame f).dpad = ((dpadNibble f).extractLsb' 1 2).setWidth 3) ∧
  (thrustCode .forward = 0 ∧ thrustCode .reverse = 1) ∧
  (steerCode .straight = 0 ∧ steerCode .left = 1 ∧ steerCode .right = 2) ∧
  (∀ d : SteerDir, steerCode d ≠ 3) ∧
  (∀ (f : Frame) (i : Nat), i < 4 →
    (faceCode (decodeFrame f).face).getLsbD i = frameBit f (44 + i) ∧
    (shoulderCode (decodeFrame f).shoulder).getLsbD i = frameBit f (48 + i) ∧
    (menuCode (decodeFrame f).menu).getLsbD i = frameBit f (52 + i))

/-- R7: bit `8*k + j` of a frame is bit `j` of byte `k`, and the frame as a number is the sum of its bytes with
weights 256^k. R19, R27 (the spec's decision D3): byte `k` of a list of delivered bytes is byte `k` of the frame
packed from it. -/
def Obligations.FrameNumbering : Prop :=
  (∀ (f : Frame) (k j : Nat), k < 8 → j < 8 → frameBit f (8 * k + j) = (frameByte f k).getLsbD j) ∧
  (∀ f : Frame, f.toNat =
    (frameByte f 0).toNat * 256 ^ 0 + (frameByte f 1).toNat * 256 ^ 1 + (frameByte f 2).toNat * 256 ^ 2 +
    (frameByte f 3).toNat * 256 ^ 3 + (frameByte f 4).toNat * 256 ^ 4 + (frameByte f 5).toNat * 256 ^ 5 +
    (frameByte f 6).toNat * 256 ^ 6 + (frameByte f 7).toNat * 256 ^ 7) ∧
  (∀ (bytes : List Byte) (k : Nat) (b : Byte), k < 8 → bytes[k]? = some b →
    frameByte (frameOfBytes bytes) k = b)

/-- R8, R25, R26, R29: the frame as the address space. A frame driven on the port reads back byte by byte and as one
little-endian number; an address outside 0 to 7 does not exist. -/
def Obligations.FrameAsAddressSpace : Prop :=
  (∀ (s : State) (p : PortIn) (k : Nat), k < 8 →
    memRead (s.drive p).frame k 1 = .ok (frameByte p.frame k).toNat) ∧
  (∀ (s : State) (p : PortIn), memRead (s.drive p).frame 0 8 = .ok p.frame.toNat) ∧
  (∀ (m : Memory) (a : Nat), (∃ b, readByte m a = .ok b) ↔ a < 8) ∧
  (∀ (m : Memory) (a : Nat), 8 ≤ a → readByte m a = .error (.noSuchByte a))

/-! ### Several instances -/

/-- R23, R135: stepping one instance is that instance's own step, and leaves every other instance as it was. The
system as a list is the model's (log 12). -/
def Obligations.InstancesShareNothing : Prop :=
  ∀ (sys sys' : List State) (k : Nat), stepInstance sys k = some sys' →
    sys'.length = sys.length ∧
    (∃ s t, sys[k]? = some s ∧ step s = .next t ∧ sys'[k]? = some t) ∧
    (∀ j, j ≠ k → sys'[j]? = sys[j]?)

/-- R23, R135, 95 P5: in whatever order the instances are stepped, the system comes out the same. The system as a list
is the model's (log 12). That the unspecified data ports too come out equal in both orders rests on the free values
being functions of a counter that each instance holds for itself, the model's choice (log 3). -/
def Obligations.InstanceSchedulesCommute : Prop :=
  ∀ (sys : List State) (order order' : List Nat), order.Perm order' →
    runInstances sys order = runInstances sys order'
end

