-- ==== Sys2Proof/Laws/Frame.lean ====
section
/-! SUPPORT. Small laws of bytes, bits and port codes: reading back what was put together. -/

namespace Sys2Proof

/-! ### Bytes and bits of a frame (R7) -/

/-- Bit `j` of byte `k` is the absolute bit `8*k + j` (R7, R26). -/
theorem getLsbD_frameByte (f : Frame) (k j : Nat) (hj : j < 8) :
    (frameByte f k).getLsbD j = frameBit f (8 * k + j) := by
  simp [frameByte, frameBit, hj]

/-- A byte as a number: the frame number shifted and cut (R7). -/
theorem toNat_frameByte (f : Frame) (k : Nat) : (frameByte f k).toNat = f.toNat / 2 ^ (8 * k) % 256 := by
  simp [frameByte, Nat.shiftRight_eq_div_pow]

/-- The number on the `len` port: the length, and 15 for more than 15 bytes (log 11). -/
@[simp] theorem toNat_lenCode (n : Nat) : (lenCode n).toNat = min n 15 := by
  simp [lenCode]

/-- A read of at most 15 bytes stands on `len` as it is. -/
theorem lenCode_of_le {n : Nat} (h : n ≤ 15) : lenCode n = BitVec.ofNat 4 n := by
  rw [lenCode, Nat.min_eq_left h]

theorem length_bytesOfFrame (f : Frame) : (bytesOfFrame f).length = 8 := by
  simp [bytesOfFrame]

theorem bytesOfFrame_eq (f : Frame) :
    bytesOfFrame f = [frameByte f 0, frameByte f 1, frameByte f 2, frameByte f 3,
      frameByte f 4, frameByte f 5, frameByte f 6, frameByte f 7] := rfl

/-- Bit `i` of packed bytes: bit `i mod 8` of byte `i div 8` (R7, R19). -/
theorem getLsbD_frameOfBytes (bs : List Byte) (i : Nat) (hi : i < 64) :
    (frameOfBytes bs).getLsbD i = ((bs[i / 8]?).getD 0).getLsbD (i % 8) := by
  induction bs generalizing i with
  | nil => simp [frameOfBytes]
  | cons b bs ih =>
    rw [frameOfBytes, BitVec.getLsbD_or, BitVec.getLsbD_shiftLeft, BitVec.getLsbD_setWidth]
    by_cases h : i < 8
    · have h0 : i / 8 = 0 := by omega
      have h1 : i % 8 = i := by omega
      simp [h, hi, h0, h1]
    · obtain ⟨j, rfl⟩ : ∃ j, i = j + 8 := ⟨i - 8, by omega⟩
      have h0 : (j + 8) / 8 = j / 8 + 1 := by omega
      have h1 : (j + 8) % 8 = j % 8 := by omega
      simp [hi, h0, h1, ih j (by omega)]

/-- A byte of packed bytes is the byte delivered, for the eight places a frame has (R19). -/
theorem frameByte_frameOfBytes (bs : List Byte) (k : Nat) (hk : k < 8) :
    frameByte (frameOfBytes bs) k = (bs[k]?).getD 0 := by
  apply BitVec.eq_of_getLsbD_eq
  intro j hj
  rw [getLsbD_frameByte _ _ _ hj, frameBit, getLsbD_frameOfBytes _ _ (by omega)]
  have h0 : (8 * k + j) / 8 = k := by omega
  have h1 : (8 * k + j) % 8 = j := by omega
  rw [h0, h1]

/-- Two frames with the same eight bytes are equal. -/
theorem frame_ext {f g : Frame} (h : ∀ k, k < 8 → frameByte f k = frameByte g k) : f = g := by
  apply BitVec.eq_of_getLsbD_eq
  intro i hi
  have := congrArg (fun b => b.getLsbD (i % 8)) (h (i / 8) (by omega))
  simp only [getLsbD_frameByte _ _ _ (Nat.mod_lt i (by omega : 0 < 8)), frameBit] at this
  rwa [show 8 * (i / 8) + i % 8 = i by omega] at this

/-- Packing a frame's own bytes gives the frame back (R27). -/
@[simp] theorem frameOfBytes_bytesOfFrame (f : Frame) : frameOfBytes (bytesOfFrame f) = f := by
  apply frame_ext
  intro k hk
  rw [frameByte_frameOfBytes _ _ hk]
  simp [bytesOfFrame, hk]

namespace Machine

/-! ### Port codes read back (R48, R49) -/

@[simp] theorem dpadOfCode_dpadCode (d : Dpad) : dpadOfCode (dpadCode d) = some d := by cases d <;> rfl
@[simp] theorem thrustOfCode_thrustCode (d : ThrustDir) : thrustOfCode (thrustCode d) = d := by cases d <;> rfl
@[simp] theorem steerOfCode_steerCode (d : SteerDir) : steerOfCode (steerCode d) = some d := by cases d <;> rfl

@[simp] theorem faceOfCode_faceCode (b : FaceButtons) : faceOfCode (faceCode b) = b := by
  obtain ⟨a, b, c, d⟩ := b; cases a <;> cases b <;> cases c <;> cases d <;> rfl
@[simp] theorem shoulderOfCode_shoulderCode (b : ShoulderButtons) : shoulderOfCode (shoulderCode b) = b := by
  obtain ⟨a, b, c, d⟩ := b; cases a <;> cases b <;> cases c <;> cases d <;> rfl
@[simp] theorem menuOfCode_menuCode (b : MenuButtons) : menuOfCode (menuCode b) = b := by
  obtain ⟨a, b, c, d⟩ := b; cases a <;> cases b <;> cases c <;> cases d <;> rfl

/-- What `putBit` does, bit by bit: bit `i` takes the value, the others stay. -/
theorem getLsbD_putBit (v : BitVec 4) (i : Nat) (b : Bool) (j : Nat) (hj : j < 4) :
    (putBit v i b).getLsbD j = if j = i then b else v.getLsbD j := by
  have h1 : (1#4 <<< i).getLsbD j = decide (j = i) := by
    rw [show (1#4 <<< i) = BitVec.twoPow 4 i by simp [BitVec.twoPow], BitVec.getLsbD_twoPow]
    by_cases h : j = i
    · subst h; simp [hj]
    · simp [h, Ne.symm h]
  cases b
  · rw [putBit, if_neg (by simp), BitVec.getLsbD_and, BitVec.getLsbD_not, h1]
    by_cases h : j = i
    · simp [h]
    · rw [if_neg h]; simp only [hj, h, decide_true, decide_false, Bool.not_false, Bool.and_true]
  · rw [putBit, if_pos rfl, BitVec.getLsbD_or, h1]
    by_cases h : j = i <;> simp [h]

end Machine
end Sys2Proof
end

