-- ==== Sys2Proof/Laws/Memory.lean ====
section
/-! SUPPORT. The laws of the frame memory: every operation keeps the canonical form, a read gives the byte that was
put, and a read of the frame never fails. -/

namespace Sys2Proof.Machine

/-! ### The canonical form is kept -/

theorem Memory.wfFrom_cons (lo a : Nat) (v : Byte) (m : Memory) :
    Memory.wfFrom lo ((a, v) :: m) = true ↔
      lo ≤ a ∧ a < 8 ∧ v ≠ unlistedByte ∧ Memory.wfFrom (a + 1) m = true := by
  simp [Memory.wfFrom, and_assoc]

theorem Memory.wfFrom_mono {lo lo' : Nat} (h : lo' ≤ lo) {m : Memory} (hm : Memory.wfFrom lo m = true) :
    Memory.wfFrom lo' m = true := by
  cases m with
  | nil => rfl
  | cons c m =>
    obtain ⟨a, v⟩ := c
    rw [Memory.wfFrom_cons] at hm ⊢
    exact ⟨h.trans hm.1, hm.2⟩

/-- Putting a byte of the frame keeps the form from any bound below its address. -/
theorem Memory.poke_wfFrom {lo : Nat} {m : Memory} (hm : Memory.wfFrom lo m = true) {a : Nat} (v : Byte)
    (hlo : lo ≤ a) (ha : a < 8) : Memory.wfFrom lo (Memory.poke m a v) = true := by
  induction m generalizing lo with
  | nil =>
    unfold Memory.poke; split
    · rfl
    · rw [Memory.wfFrom_cons]; exact ⟨hlo, ha, by assumption, rfl⟩
  | cons c m ih =>
    obtain ⟨b, w⟩ := c
    have hc := (Memory.wfFrom_cons lo b w m).1 hm
    unfold Memory.poke
    split
    · split
      · exact hm
      · rw [Memory.wfFrom_cons]
        exact ⟨hlo, ha, by assumption, (Memory.wfFrom_cons _ _ _ _).2 ⟨by omega, hc.2⟩⟩
    · split
      · split
        · exact Memory.wfFrom_mono (by omega) hc.2.2.2
        · rw [Memory.wfFrom_cons]
          exact ⟨hlo, ha, by assumption, Memory.wfFrom_mono (by omega) hc.2.2.2⟩
      · rw [Memory.wfFrom_cons]
        exact ⟨hc.1, hc.2.1, hc.2.2.1, ih hc.2.2.2 (by omega)⟩

/-- `poke` keeps the canonical form. -/
theorem Memory.poke_wf {m : Memory} (hm : Memory.wf m = true) {a : Nat} (ha : a < 8) (v : Byte) :
    Memory.wf (Memory.poke m a v) = true :=
  Memory.poke_wfFrom hm v (Nat.zero_le a) ha

/-- `load` keeps the canonical form while it stays inside the frame. -/
theorem Memory.load_wf {m : Memory} (hm : Memory.wf m = true) (bytes : List Byte) (a : Nat)
    (h : a + bytes.length ≤ 8) : Memory.wf (Memory.load a bytes m) = true := by
  induction bytes generalizing a m with
  | nil => exact hm
  | cons b bs ih =>
    rw [List.length_cons] at h
    exact ih (Memory.poke_wf hm (by omega) b) (a + 1) (by omega)

/-- A frame stands in memory in canonical form. -/
@[simp] theorem Memory.ofFrame_wf (f : Frame) : Memory.wf (Memory.ofFrame f) = true :=
  Memory.load_wf rfl _ 0 (by rw [length_bytesOfFrame])

/-! ### A read gives the byte that was put -/

/-- Nothing is read below the lowest address of a canonical memory. -/
theorem Memory.peek_of_lt {lo : Nat} {m : Memory} (hm : Memory.wfFrom lo m = true) {a : Nat} (h : a < lo) :
    Memory.peek m a = unlistedByte := by
  induction m generalizing lo with
  | nil => rfl
  | cons c m ih =>
    obtain ⟨b, w⟩ := c
    have hc := (Memory.wfFrom_cons lo b w m).1 hm
    rw [Memory.peek, if_neg (by omega)]
    exact ih hc.2.2.2 (by omega)

/-- A byte put is the byte read there, and every other address reads as before. -/
theorem Memory.peek_poke {lo : Nat} {m : Memory} (hm : Memory.wfFrom lo m = true) (a : Nat) (v : Byte) (k : Nat) :
    Memory.peek (Memory.poke m a v) k = if k = a then v else Memory.peek m k := by
  induction m generalizing lo with
  | nil =>
    by_cases hv : v = unlistedByte <;> simp [Memory.poke, Memory.peek, hv]
  | cons c m ih =>
    obtain ⟨b, w⟩ := c
    have hc := (Memory.wfFrom_cons lo b w m).1 hm
    unfold Memory.poke
    split
    · next hab =>
      have hp : Memory.peek ((b, w) :: m) a = unlistedByte :=
        Memory.peek_of_lt (lo := b) ((Memory.wfFrom_cons _ _ _ _).2 ⟨le_refl b, hc.2⟩) hab
      split
      · next hv => by_cases hk : k = a <;> simp [hk, hv, hp]
      · by_cases hk : k = a <;> simp [Memory.peek, hk]
    · split
      · next _ hab =>
        subst hab
        have hp : Memory.peek m a = unlistedByte := Memory.peek_of_lt hc.2.2.2 (by omega)
        split
        · next hv => by_cases hk : k = a <;> simp [Memory.peek, hk, hv, hp]
        · by_cases hk : k = a <;> simp [Memory.peek, hk]
      · next hab hne =>
        by_cases hkb : k = b
        · subst hkb; simp [Memory.peek, Ne.symm hne]
        · simp [Memory.peek, hkb, ih hc.2.2.2]

/-- What a loaded list of bytes reads as. -/
theorem Memory.peek_load {m : Memory} (hm : Memory.wf m = true) (bytes : List Byte) (a k : Nat)
    (h : a + bytes.length ≤ 8) :
    Memory.peek (Memory.load a bytes m) k =
      if a ≤ k ∧ k < a + bytes.length then (bytes[k - a]?).getD 0 else Memory.peek m k := by
  induction bytes generalizing a m with
  | nil => simp [Memory.load]
  | cons b bs ih =>
    rw [List.length_cons] at h
    rw [Memory.load, ih (Memory.poke_wf hm (by omega) b) (a + 1) (by omega), Memory.peek_poke hm]
    by_cases h1 : k = a
    · subst h1; simp
    · by_cases h2 : a + 1 ≤ k ∧ k < a + 1 + bs.length
      · have h3 : k - a = (k - (a + 1)) + 1 := by omega
        have h4 : a ≤ k ∧ k < a + (b :: bs).length := by rw [List.length_cons]; omega
        rw [if_pos h2, if_pos h4, h3, List.getElem?_cons_succ]
      · have h4 : ¬ (a ≤ k ∧ k < a + (b :: bs).length) := by rw [List.length_cons]; omega
        rw [if_neg h2, if_neg h1, if_neg h4]

/-- Byte `k` of the memory that holds a frame is `F.byte[k]` (R25). -/
theorem Memory.peek_ofFrame (f : Frame) (k : Nat) (hk : k < 8) :
    Memory.peek (Memory.ofFrame f) k = frameByte f k := by
  rw [Memory.ofFrame, Memory.peek_load (by rfl) _ _ _ (by rw [length_bytesOfFrame]), length_bytesOfFrame,
    if_pos ⟨Nat.zero_le k, by omega⟩]
  simp [bytesOfFrame, hk]

/-! ### Reads inside the frame never fail -/

theorem readByte_of_lt (m : Memory) {a : Nat} (ha : a < 8) : readByte m a = .ok (Memory.peek m a) := by
  simp [readByte, ha]

/-- Outside 0 to 7 there is no byte (R25, R29). -/
theorem readByte_of_ge (m : Memory) {a : Nat} (ha : 8 ≤ a) : readByte m a = .error (.noSuchByte a) := by
  simp [readByte, Nat.not_lt.2 ha]

/-- The bytes of a frame memory in index order. -/
def Memory.bytes (m : Memory) : List Byte := (List.range 8).map (Memory.peek m)

/-- The frame a memory holds. -/
def Memory.toFrame (m : Memory) : Frame := frameOfBytes (Memory.bytes m)

theorem Memory.frameByte_toFrame (m : Memory) (k : Nat) (hk : k < 8) :
    frameByte (Memory.toFrame m) k = Memory.peek m k := by
  rw [Memory.toFrame, frameByte_frameOfBytes _ _ hk]
  simp [Memory.bytes, hk]

/-- `memRead` of one byte is that byte (R8). -/
theorem memRead_one (m : Memory) {a : Nat} (ha : a < 8) : memRead m a 1 = .ok (Memory.peek m a).toNat := by
  simp [memRead, readByte_of_lt m ha]

/-- The number of a frame is the sum of its bytes with weights 256^k (R7), written as `memRead` forms it. -/
theorem toNat_eq_bytes (f : Frame) :
    f.toNat = (frameByte f 0).toNat + 256 * ((frameByte f 1).toNat + 256 * ((frameByte f 2).toNat +
      256 * ((frameByte f 3).toNat + 256 * ((frameByte f 4).toNat + 256 * ((frameByte f 5).toNat +
      256 * ((frameByte f 6).toNat + 256 * (frameByte f 7).toNat)))))) := by
  simp only [toNat_frameByte]
  have := f.isLt
  omega

/-- The eight bytes read as one little-endian number are the number of the frame (R7, R8). -/
theorem memRead_frame (m : Memory) : memRead m 0 8 = .ok (Memory.toFrame m).toNat := by
  rw [toNat_eq_bytes]
  simp [memRead, readByte_of_lt, Memory.frameByte_toFrame]

/-- Reading the frame never fails and gives the frame that stands in memory. -/
@[simp] theorem readFrame_eq (m : Memory) : readFrame m = .ok (Memory.toFrame m) := by
  simp [readFrame, memRead_frame]

@[simp] theorem Memory.toFrame_ofFrame (f : Frame) : Memory.toFrame (Memory.ofFrame f) = f := by
  apply frame_ext
  intro k hk
  rw [Memory.frameByte_toFrame _ _ hk, Memory.peek_ofFrame _ _ hk]

/-- What stands on the frame port is what was driven there. -/
@[simp] theorem readFrame_ofFrame (f : Frame) : readFrame (Memory.ofFrame f) = .ok f := by simp

end Sys2Proof.Machine
end

