-- ==== Sys2Proof/Laws/PerInstr.lean ====
section
/-! SUPPORT. Statements for all instructions, one lemma per constructor. -/

namespace Sys2Proof.Laws.TableFormat

/-- The encoder gives each instruction a value of the format its table row is tested on (R53), and the row stands in
its operation's group. -/
def Statement (i : Instr) : Prop :=
  (encode i).format = (tableRow i).format ∧ (rowsOf (opOf i)).contains (tableRow i) = true

theorem axisRY (f : Frame) : Statement (.axisRY f) := ⟨rfl, rfl⟩
theorem axisRX (f : Frame) : Statement (.axisRX f) := ⟨rfl, rfl⟩
theorem axisLX (f : Frame) : Statement (.axisLX f) := ⟨rfl, rfl⟩
theorem axisLY (f : Frame) : Statement (.axisLY f) := ⟨rfl, rfl⟩
theorem dpadN0 (f : Frame) : Statement (.dpadN0 f) := ⟨rfl, rfl⟩
theorem dpadN1 (f : Frame) : Statement (.dpadN1 f) := ⟨rfl, rfl⟩
theorem dpadN2 (f : Frame) : Statement (.dpadN2 f) := ⟨rfl, rfl⟩
theorem dpadN3 (f : Frame) : Statement (.dpadN3 f) := ⟨rfl, rfl⟩
theorem dpadN4 (f : Frame) : Statement (.dpadN4 f) := ⟨rfl, rfl⟩
theorem dpadN5 (f : Frame) : Statement (.dpadN5 f) := ⟨rfl, rfl⟩
theorem dpadN6 (f : Frame) : Statement (.dpadN6 f) := ⟨rfl, rfl⟩
theorem dpadN7 (f : Frame) : Statement (.dpadN7 f) := ⟨rfl, rfl⟩
theorem dpadN8 (f : Frame) : Statement (.dpadN8 f) := ⟨rfl, rfl⟩
theorem dpadN9 (f : Frame) : Statement (.dpadN9 f) := ⟨rfl, rfl⟩
theorem dpadNA (f : Frame) : Statement (.dpadNA f) := ⟨rfl, rfl⟩
theorem dpadNB (f : Frame) : Statement (.dpadNB f) := ⟨rfl, rfl⟩
theorem dpadNC (f : Frame) : Statement (.dpadNC f) := ⟨rfl, rfl⟩
theorem dpadND (f : Frame) : Statement (.dpadND f) := ⟨rfl, rfl⟩
theorem dpadNE (f : Frame) : Statement (.dpadNE f) := ⟨rfl, rfl⟩
theorem dpadNF (f : Frame) : Statement (.dpadNF f) := ⟨rfl, rfl⟩
theorem btnTriangle (f : Frame) : Statement (.btnTriangle f) := ⟨rfl, rfl⟩
theorem btnCircle (f : Frame) : Statement (.btnCircle f) := ⟨rfl, rfl⟩
theorem btnCross (f : Frame) : Statement (.btnCross f) := ⟨rfl, rfl⟩
theorem btnSquare (f : Frame) : Statement (.btnSquare f) := ⟨rfl, rfl⟩
theorem btnL2 (f : Frame) : Statement (.btnL2 f) := ⟨rfl, rfl⟩
theorem btnR2 (f : Frame) : Statement (.btnR2 f) := ⟨rfl, rfl⟩
theorem btnL1 (f : Frame) : Statement (.btnL1 f) := ⟨rfl, rfl⟩
theorem btnR1 (f : Frame) : Statement (.btnR1 f) := ⟨rfl, rfl⟩
theorem btnSelect (f : Frame) : Statement (.btnSelect f) := ⟨rfl, rfl⟩
theorem btnStart (f : Frame) : Statement (.btnStart f) := ⟨rfl, rfl⟩
theorem btnLStick (f : Frame) : Statement (.btnLStick f) := ⟨rfl, rfl⟩
theorem btnRStick (f : Frame) : Statement (.btnRStick f) := ⟨rfl, rfl⟩
theorem decode (f : Frame) : Statement (.decode f) := ⟨rfl, rfl⟩
theorem remapSideLow (raw : Byte) : Statement (.remapSideLow raw) := ⟨rfl, rfl⟩
theorem remapSideMid : Statement .remapSideMid := ⟨rfl, rfl⟩
theorem remapSideHigh (raw : Byte) : Statement (.remapSideHigh raw) := ⟨rfl, rfl⟩
theorem remapMagLow (raw : Byte) : Statement (.remapMagLow raw) := ⟨rfl, rfl⟩
theorem remapMagMid : Statement .remapMagMid := ⟨rfl, rfl⟩
theorem remapMagHigh (raw : Byte) : Statement (.remapMagHigh raw) := ⟨rfl, rfl⟩
theorem remapThrustLow (raw : Byte) : Statement (.remapThrustLow raw) := ⟨rfl, rfl⟩
theorem remapThrustMid : Statement .remapThrustMid := ⟨rfl, rfl⟩
theorem remapThrustHigh (raw : Byte) : Statement (.remapThrustHigh raw) := ⟨rfl, rfl⟩
theorem remapSteerLow (raw : Byte) : Statement (.remapSteerLow raw) := ⟨rfl, rfl⟩
theorem remapSteerMid : Statement .remapSteerMid := ⟨rfl, rfl⟩
theorem remapSteerHigh (raw : Byte) : Statement (.remapSteerHigh raw) := ⟨rfl, rfl⟩
theorem actuate (cs : ControlState) : Statement (.actuate cs) := ⟨rfl, rfl⟩
theorem sampleOk (f : Frame) : Statement (.sampleOk f) := ⟨rfl, rfl⟩
theorem sampleIncomplete (len : Len) : Statement (.sampleIncomplete len) := ⟨rfl, rfl⟩
theorem sampleRefused (len : Len) : Statement (.sampleRefused len) := ⟨rfl, rfl⟩

end Sys2Proof.Laws.TableFormat
end

