-- ==== Sys2Proof/Laws/Remap.lean ====
section
/-! SUPPORT. Small laws of the interpolation (41_axis_remapper.md): the branch of each operand, and the magnitude as a
number that fits its port. -/

namespace Sys2Proof.Machine

theorem remapMag_of_le {raw : Byte} (h : raw.toNat ≤ 128) : remapMag raw = (128 - raw.toNat) * 255 / 128 := by
  simp [remapMag, lowMagnitude, h]

theorem remapMag_of_gt {raw : Byte} (h : 128 < raw.toNat) : remapMag raw = (raw.toNat - 129) * 255 / 126 := by
  simp [remapMag, highMagnitude, Nat.not_le.2 h]

/-- No magnitude exceeds 255, so the clamp is never reached (R92). -/
theorem remapMag_le (raw : Byte) : remapMag raw ≤ 255 := by
  have := raw.isLt
  rcases Nat.lt_or_ge 128 raw.toNat with h | h
  · rw [remapMag_of_gt h]; omega
  · rw [remapMag_of_le h]; omega

/-- The port carries the whole magnitude (R49). -/
@[simp] theorem toNat_magByte_remapMag (raw : Byte) : (magByte (remapMag raw)).toNat = remapMag raw := by
  have := remapMag_le raw
  simp [magByte]; omega

end Sys2Proof.Machine
end

