-- ==== Sys2Proof/Laws/Rows.lean ====
section
/-! SUPPORT. Which row a value selects, said once for each group of rows (R42, R47), and what one button write does to
another. -/

namespace Sys2Proof

/-- The row of a frame, by its D-pad nibble (R42): one row for each of the sixteen. -/
theorem dpadRow_cases (f : Frame) :
    (dpadNibble f = 0#4 ∧ dpadRow f = .dpadN0 f) ∨ (dpadNibble f = 1#4 ∧ dpadRow f = .dpadN1 f) ∨
    (dpadNibble f = 2#4 ∧ dpadRow f = .dpadN2 f) ∨ (dpadNibble f = 3#4 ∧ dpadRow f = .dpadN3 f) ∨
    (dpadNibble f = 4#4 ∧ dpadRow f = .dpadN4 f) ∨ (dpadNibble f = 5#4 ∧ dpadRow f = .dpadN5 f) ∨
    (dpadNibble f = 6#4 ∧ dpadRow f = .dpadN6 f) ∨ (dpadNibble f = 7#4 ∧ dpadRow f = .dpadN7 f) ∨
    (dpadNibble f = 8#4 ∧ dpadRow f = .dpadN8 f) ∨ (dpadNibble f = 9#4 ∧ dpadRow f = .dpadN9 f) ∨
    (dpadNibble f = 10#4 ∧ dpadRow f = .dpadNA f) ∨ (dpadNibble f = 11#4 ∧ dpadRow f = .dpadNB f) ∨
    (dpadNibble f = 12#4 ∧ dpadRow f = .dpadNC f) ∨ (dpadNibble f = 13#4 ∧ dpadRow f = .dpadND f) ∨
    (dpadNibble f = 14#4 ∧ dpadRow f = .dpadNE f) ∨ (dpadNibble f = 15#4 ∧ dpadRow f = .dpadNF f) := by
  unfold dpadRow
  generalize dpadNibble f = n
  have h : ∀ n : Nibble, n = 0#4 ∨ n = 1#4 ∨ n = 2#4 ∨ n = 3#4 ∨ n = 4#4 ∨ n = 5#4 ∨ n = 6#4 ∨ n = 7#4 ∨ n = 8#4 ∨
      n = 9#4 ∨ n = 10#4 ∨ n = 11#4 ∨ n = 12#4 ∨ n = 13#4 ∨ n = 14#4 ∨ n = 15#4 := by decide
  rcases h n with rfl | rfl | rfl | rfl | rfl | rfl | rfl | rfl | rfl | rfl | rfl | rfl | rfl | rfl | rfl | rfl <;> simp

/-- The `REMAP.SIDE` row of an operand, by its range (R47). -/
theorem sideRow_cases (raw : Byte) :
    (raw.toNat < 128 ∧ sideRow raw = .remapSideLow raw) ∨ (raw = 128#8 ∧ sideRow raw = .remapSideMid) ∨
    (128 < raw.toNat ∧ sideRow raw = .remapSideHigh raw) := by
  rcases Nat.lt_trichotomy raw.toNat 128 with h | h | h
  · exact .inl ⟨h, by simp [sideRow, h]⟩
  · exact .inr (.inl ⟨BitVec.eq_of_toNat_eq h, by simp [sideRow, h]⟩)
  · exact .inr (.inr ⟨h, by simp [sideRow, Nat.not_lt.2 h.le, Nat.ne_of_gt h]⟩)

/-- The `REMAP.MAG` row of an operand, by its range (R47). -/
theorem magRow_cases (raw : Byte) :
    (raw.toNat < 128 ∧ magRow raw = .remapMagLow raw) ∨ (raw = 128#8 ∧ magRow raw = .remapMagMid) ∨
    (128 < raw.toNat ∧ magRow raw = .remapMagHigh raw) := by
  rcases Nat.lt_trichotomy raw.toNat 128 with h | h | h
  · exact .inl ⟨h, by simp [magRow, h]⟩
  · exact .inr (.inl ⟨BitVec.eq_of_toNat_eq h, by simp [magRow, h]⟩)
  · exact .inr (.inr ⟨h, by simp [magRow, Nat.not_lt.2 h.le, Nat.ne_of_gt h]⟩)

/-- The `REMAP.THRUST` row of an operand, by its range (R47). -/
theorem thrustRow_cases (raw : Byte) :
    (raw.toNat < 128 ∧ thrustRow raw = .remapThrustLow raw) ∨ (raw = 128#8 ∧ thrustRow raw = .remapThrustMid) ∨
    (128 < raw.toNat ∧ thrustRow raw = .remapThrustHigh raw) := by
  rcases Nat.lt_trichotomy raw.toNat 128 with h | h | h
  · exact .inl ⟨h, by simp [thrustRow, h]⟩
  · exact .inr (.inl ⟨BitVec.eq_of_toNat_eq h, by simp [thrustRow, h]⟩)
  · exact .inr (.inr ⟨h, by simp [thrustRow, Nat.not_lt.2 h.le, Nat.ne_of_gt h]⟩)

/-- The `REMAP.STEER` row of an operand, by its range (R47). -/
theorem steerRow_cases (raw : Byte) :
    (raw.toNat < 128 ∧ steerRow raw = .remapSteerLow raw) ∨ (raw = 128#8 ∧ steerRow raw = .remapSteerMid) ∨
    (128 < raw.toNat ∧ steerRow raw = .remapSteerHigh raw) := by
  rcases Nat.lt_trichotomy raw.toNat 128 with h | h | h
  · exact .inl ⟨h, by simp [steerRow, h]⟩
  · exact .inr (.inl ⟨BitVec.eq_of_toNat_eq h, by simp [steerRow, h]⟩)
  · exact .inr (.inr ⟨h, by simp [steerRow, Nat.not_lt.2 h.le, Nat.ne_of_gt h]⟩)

namespace Machine

/-- Writes of two different buttons of one port commute. -/
theorem putBit_comm (v : BitVec 4) (i j : Nat) (a b : Bool) (h : i ≠ j) :
    putBit (putBit v i a) j b = putBit (putBit v j b) i a := by
  apply BitVec.eq_of_getLsbD_eq
  intro k hk
  rw [getLsbD_putBit _ _ _ _ hk, getLsbD_putBit _ _ _ _ hk, getLsbD_putBit _ _ _ _ hk, getLsbD_putBit _ _ _ _ hk]
  by_cases h1 : k = i
  · rw [if_pos h1, if_pos h1, if_neg (h1 ▸ h)]
  · rw [if_neg h1, if_neg h1]

/-- The four buttons of a port, written one after another, leave nothing of the port before. -/
theorem putBit_all (v : BitVec 4) (a b c d : Bool) :
    putBit (putBit (putBit (putBit v 0 a) 1 b) 2 c) 3 d = bit d ++ bit c ++ bit b ++ bit a := by
  revert v a b c d; decide

end Machine
end Sys2Proof
end

