-- ==== Sys2Proof/Laws/State.lean ====
section
/-! SUPPORT. One lemma per field per update of the ports and of the state, so that no later proof unfolds a record
update; and what the two updates that look at the schedule do. -/

namespace Sys2Proof.Machine

/-! ### Updates of the data ports -/

@[simp] theorem DataPorts.setRightStickY_rightStickY (d : DataPorts) (v : Byte) : (d.setRightStickY v).rightStickY = v := rfl
@[simp] theorem DataPorts.setRightStickY_rightStickX (d : DataPorts) (v : Byte) : (d.setRightStickY v).rightStickX = d.rightStickX := rfl
@[simp] theorem DataPorts.setRightStickY_leftStickX (d : DataPorts) (v : Byte) : (d.setRightStickY v).leftStickX = d.leftStickX := rfl
@[simp] theorem DataPorts.setRightStickY_leftStickY (d : DataPorts) (v : Byte) : (d.setRightStickY v).leftStickY = d.leftStickY := rfl
@[simp] theorem DataPorts.setRightStickY_dpad (d : DataPorts) (v : Byte) : (d.setRightStickY v).dpad = d.dpad := rfl
@[simp] theorem DataPorts.setRightStickY_face (d : DataPorts) (v : Byte) : (d.setRightStickY v).face = d.face := rfl
@[simp] theorem DataPorts.setRightStickY_shoulder (d : DataPorts) (v : Byte) : (d.setRightStickY v).shoulder = d.shoulder := rfl
@[simp] theorem DataPorts.setRightStickY_menu (d : DataPorts) (v : Byte) : (d.setRightStickY v).menu = d.menu := rfl
@[simp] theorem DataPorts.setRightStickY_thrustMag (d : DataPorts) (v : Byte) : (d.setRightStickY v).thrustMag = d.thrustMag := rfl
@[simp] theorem DataPorts.setRightStickY_thrustDir (d : DataPorts) (v : Byte) : (d.setRightStickY v).thrustDir = d.thrustDir := rfl
@[simp] theorem DataPorts.setRightStickY_steerMag (d : DataPorts) (v : Byte) : (d.setRightStickY v).steerMag = d.steerMag := rfl
@[simp] theorem DataPorts.setRightStickY_steerDir (d : DataPorts) (v : Byte) : (d.setRightStickY v).steerDir = d.steerDir := rfl

@[simp] theorem DataPorts.setRightStickX_rightStickY (d : DataPorts) (v : Byte) : (d.setRightStickX v).rightStickY = d.rightStickY := rfl
@[simp] theorem DataPorts.setRightStickX_rightStickX (d : DataPorts) (v : Byte) : (d.setRightStickX v).rightStickX = v := rfl
@[simp] theorem DataPorts.setRightStickX_leftStickX (d : DataPorts) (v : Byte) : (d.setRightStickX v).leftStickX = d.leftStickX := rfl
@[simp] theorem DataPorts.setRightStickX_leftStickY (d : DataPorts) (v : Byte) : (d.setRightStickX v).leftStickY = d.leftStickY := rfl
@[simp] theorem DataPorts.setRightStickX_dpad (d : DataPorts) (v : Byte) : (d.setRightStickX v).dpad = d.dpad := rfl
@[simp] theorem DataPorts.setRightStickX_face (d : DataPorts) (v : Byte) : (d.setRightStickX v).face = d.face := rfl
@[simp] theorem DataPorts.setRightStickX_shoulder (d : DataPorts) (v : Byte) : (d.setRightStickX v).shoulder = d.shoulder := rfl
@[simp] theorem DataPorts.setRightStickX_menu (d : DataPorts) (v : Byte) : (d.setRightStickX v).menu = d.menu := rfl
@[simp] theorem DataPorts.setRightStickX_thrustMag (d : DataPorts) (v : Byte) : (d.setRightStickX v).thrustMag = d.thrustMag := rfl
@[simp] theorem DataPorts.setRightStickX_thrustDir (d : DataPorts) (v : Byte) : (d.setRightStickX v).thrustDir = d.thrustDir := rfl
@[simp] theorem DataPorts.setRightStickX_steerMag (d : DataPorts) (v : Byte) : (d.setRightStickX v).steerMag = d.steerMag := rfl
@[simp] theorem DataPorts.setRightStickX_steerDir (d : DataPorts) (v : Byte) : (d.setRightStickX v).steerDir = d.steerDir := rfl

@[simp] theorem DataPorts.setLeftStickX_rightStickY (d : DataPorts) (v : Byte) : (d.setLeftStickX v).rightStickY = d.rightStickY := rfl
@[simp] theorem DataPorts.setLeftStickX_rightStickX (d : DataPorts) (v : Byte) : (d.setLeftStickX v).rightStickX = d.rightStickX := rfl
@[simp] theorem DataPorts.setLeftStickX_leftStickX (d : DataPorts) (v : Byte) : (d.setLeftStickX v).leftStickX = v := rfl
@[simp] theorem DataPorts.setLeftStickX_leftStickY (d : DataPorts) (v : Byte) : (d.setLeftStickX v).leftStickY = d.leftStickY := rfl
@[simp] theorem DataPorts.setLeftStickX_dpad (d : DataPorts) (v : Byte) : (d.setLeftStickX v).dpad = d.dpad := rfl
@[simp] theorem DataPorts.setLeftStickX_face (d : DataPorts) (v : Byte) : (d.setLeftStickX v).face = d.face := rfl
@[simp] theorem DataPorts.setLeftStickX_shoulder (d : DataPorts) (v : Byte) : (d.setLeftStickX v).shoulder = d.shoulder := rfl
@[simp] theorem DataPorts.setLeftStickX_menu (d : DataPorts) (v : Byte) : (d.setLeftStickX v).menu = d.menu := rfl
@[simp] theorem DataPorts.setLeftStickX_thrustMag (d : DataPorts) (v : Byte) : (d.setLeftStickX v).thrustMag = d.thrustMag := rfl
@[simp] theorem DataPorts.setLeftStickX_thrustDir (d : DataPorts) (v : Byte) : (d.setLeftStickX v).thrustDir = d.thrustDir := rfl
@[simp] theorem DataPorts.setLeftStickX_steerMag (d : DataPorts) (v : Byte) : (d.setLeftStickX v).steerMag = d.steerMag := rfl
@[simp] theorem DataPorts.setLeftStickX_steerDir (d : DataPorts) (v : Byte) : (d.setLeftStickX v).steerDir = d.steerDir := rfl

@[simp] theorem DataPorts.setLeftStickY_rightStickY (d : DataPorts) (v : Byte) : (d.setLeftStickY v).rightStickY = d.rightStickY := rfl
@[simp] theorem DataPorts.setLeftStickY_rightStickX (d : DataPorts) (v : Byte) : (d.setLeftStickY v).rightStickX = d.rightStickX := rfl
@[simp] theorem DataPorts.setLeftStickY_leftStickX (d : DataPorts) (v : Byte) : (d.setLeftStickY v).leftStickX = d.leftStickX := rfl
@[simp] theorem DataPorts.setLeftStickY_leftStickY (d : DataPorts) (v : Byte) : (d.setLeftStickY v).leftStickY = v := rfl
@[simp] theorem DataPorts.setLeftStickY_dpad (d : DataPorts) (v : Byte) : (d.setLeftStickY v).dpad = d.dpad := rfl
@[simp] theorem DataPorts.setLeftStickY_face (d : DataPorts) (v : Byte) : (d.setLeftStickY v).face = d.face := rfl
@[simp] theorem DataPorts.setLeftStickY_shoulder (d : DataPorts) (v : Byte) : (d.setLeftStickY v).shoulder = d.shoulder := rfl
@[simp] theorem DataPorts.setLeftStickY_menu (d : DataPorts) (v : Byte) : (d.setLeftStickY v).menu = d.menu := rfl
@[simp] theorem DataPorts.setLeftStickY_thrustMag (d : DataPorts) (v : Byte) : (d.setLeftStickY v).thrustMag = d.thrustMag := rfl
@[simp] theorem DataPorts.setLeftStickY_thrustDir (d : DataPorts) (v : Byte) : (d.setLeftStickY v).thrustDir = d.thrustDir := rfl
@[simp] theorem DataPorts.setLeftStickY_steerMag (d : DataPorts) (v : Byte) : (d.setLeftStickY v).steerMag = d.steerMag := rfl
@[simp] theorem DataPorts.setLeftStickY_steerDir (d : DataPorts) (v : Byte) : (d.setLeftStickY v).steerDir = d.steerDir := rfl

@[simp] theorem DataPorts.setDpad_rightStickY (d : DataPorts) (v : Dpad) : (d.setDpad v).rightStickY = d.rightStickY := rfl
@[simp] theorem DataPorts.setDpad_rightStickX (d : DataPorts) (v : Dpad) : (d.setDpad v).rightStickX = d.rightStickX := rfl
@[simp] theorem DataPorts.setDpad_leftStickX (d : DataPorts) (v : Dpad) : (d.setDpad v).leftStickX = d.leftStickX := rfl
@[simp] theorem DataPorts.setDpad_leftStickY (d : DataPorts) (v : Dpad) : (d.setDpad v).leftStickY = d.leftStickY := rfl
@[simp] theorem DataPorts.setDpad_dpad (d : DataPorts) (v : Dpad) : (d.setDpad v).dpad = dpadCode v := rfl
@[simp] theorem DataPorts.setDpad_face (d : DataPorts) (v : Dpad) : (d.setDpad v).face = d.face := rfl
@[simp] theorem DataPorts.setDpad_shoulder (d : DataPorts) (v : Dpad) : (d.setDpad v).shoulder = d.shoulder := rfl
@[simp] theorem DataPorts.setDpad_menu (d : DataPorts) (v : Dpad) : (d.setDpad v).menu = d.menu := rfl
@[simp] theorem DataPorts.setDpad_thrustMag (d : DataPorts) (v : Dpad) : (d.setDpad v).thrustMag = d.thrustMag := rfl
@[simp] theorem DataPorts.setDpad_thrustDir (d : DataPorts) (v : Dpad) : (d.setDpad v).thrustDir = d.thrustDir := rfl
@[simp] theorem DataPorts.setDpad_steerMag (d : DataPorts) (v : Dpad) : (d.setDpad v).steerMag = d.steerMag := rfl
@[simp] theorem DataPorts.setDpad_steerDir (d : DataPorts) (v : Dpad) : (d.setDpad v).steerDir = d.steerDir := rfl

@[simp] theorem DataPorts.setFaceBit_rightStickY (d : DataPorts) (i : Nat) (b : Bool) : (d.setFaceBit i b).rightStickY = d.rightStickY := rfl
@[simp] theorem DataPorts.setFaceBit_rightStickX (d : DataPorts) (i : Nat) (b : Bool) : (d.setFaceBit i b).rightStickX = d.rightStickX := rfl
@[simp] theorem DataPorts.setFaceBit_leftStickX (d : DataPorts) (i : Nat) (b : Bool) : (d.setFaceBit i b).leftStickX = d.leftStickX := rfl
@[simp] theorem DataPorts.setFaceBit_leftStickY (d : DataPorts) (i : Nat) (b : Bool) : (d.setFaceBit i b).leftStickY = d.leftStickY := rfl
@[simp] theorem DataPorts.setFaceBit_dpad (d : DataPorts) (i : Nat) (b : Bool) : (d.setFaceBit i b).dpad = d.dpad := rfl
@[simp] theorem DataPorts.setFaceBit_face (d : DataPorts) (i : Nat) (b : Bool) : (d.setFaceBit i b).face = putBit d.face i b := rfl
@[simp] theorem DataPorts.setFaceBit_shoulder (d : DataPorts) (i : Nat) (b : Bool) : (d.setFaceBit i b).shoulder = d.shoulder := rfl
@[simp] theorem DataPorts.setFaceBit_menu (d : DataPorts) (i : Nat) (b : Bool) : (d.setFaceBit i b).menu = d.menu := rfl
@[simp] theorem DataPorts.setFaceBit_thrustMag (d : DataPorts) (i : Nat) (b : Bool) : (d.setFaceBit i b).thrustMag = d.thrustMag := rfl
@[simp] theorem DataPorts.setFaceBit_thrustDir (d : DataPorts) (i : Nat) (b : Bool) : (d.setFaceBit i b).thrustDir = d.thrustDir := rfl
@[simp] theorem DataPorts.setFaceBit_steerMag (d : DataPorts) (i : Nat) (b : Bool) : (d.setFaceBit i b).steerMag = d.steerMag := rfl
@[simp] theorem DataPorts.setFaceBit_steerDir (d : DataPorts) (i : Nat) (b : Bool) : (d.setFaceBit i b).steerDir = d.steerDir := rfl

@[simp] theorem DataPorts.setShoulderBit_rightStickY (d : DataPorts) (i : Nat) (b : Bool) : (d.setShoulderBit i b).rightStickY = d.rightStickY := rfl
@[simp] theorem DataPorts.setShoulderBit_rightStickX (d : DataPorts) (i : Nat) (b : Bool) : (d.setShoulderBit i b).rightStickX = d.rightStickX := rfl
@[simp] theorem DataPorts.setShoulderBit_leftStickX (d : DataPorts) (i : Nat) (b : Bool) : (d.setShoulderBit i b).leftStickX = d.leftStickX := rfl
@[simp] theorem DataPorts.setShoulderBit_leftStickY (d : DataPorts) (i : Nat) (b : Bool) : (d.setShoulderBit i b).leftStickY = d.leftStickY := rfl
@[simp] theorem DataPorts.setShoulderBit_dpad (d : DataPorts) (i : Nat) (b : Bool) : (d.setShoulderBit i b).dpad = d.dpad := rfl
@[simp] theorem DataPorts.setShoulderBit_face (d : DataPorts) (i : Nat) (b : Bool) : (d.setShoulderBit i b).face = d.face := rfl
@[simp] theorem DataPorts.setShoulderBit_shoulder (d : DataPorts) (i : Nat) (b : Bool) : (d.setShoulderBit i b).shoulder = putBit d.shoulder i b := rfl
@[simp] theorem DataPorts.setShoulderBit_menu (d : DataPorts) (i : Nat) (b : Bool) : (d.setShoulderBit i b).menu = d.menu := rfl
@[simp] theorem DataPorts.setShoulderBit_thrustMag (d : DataPorts) (i : Nat) (b : Bool) : (d.setShoulderBit i b).thrustMag = d.thrustMag := rfl
@[simp] theorem DataPorts.setShoulderBit_thrustDir (d : DataPorts) (i : Nat) (b : Bool) : (d.setShoulderBit i b).thrustDir = d.thrustDir := rfl
@[simp] theorem DataPorts.setShoulderBit_steerMag (d : DataPorts) (i : Nat) (b : Bool) : (d.setShoulderBit i b).steerMag = d.steerMag := rfl
@[simp] theorem DataPorts.setShoulderBit_steerDir (d : DataPorts) (i : Nat) (b : Bool) : (d.setShoulderBit i b).steerDir = d.steerDir := rfl

@[simp] theorem DataPorts.setMenuBit_rightStickY (d : DataPorts) (i : Nat) (b : Bool) : (d.setMenuBit i b).rightStickY = d.rightStickY := rfl
@[simp] theorem DataPorts.setMenuBit_rightStickX (d : DataPorts) (i : Nat) (b : Bool) : (d.setMenuBit i b).rightStickX = d.rightStickX := rfl
@[simp] theorem DataPorts.setMenuBit_leftStickX (d : DataPorts) (i : Nat) (b : Bool) : (d.setMenuBit i b).leftStickX = d.leftStickX := rfl
@[simp] theorem DataPorts.setMenuBit_leftStickY (d : DataPorts) (i : Nat) (b : Bool) : (d.setMenuBit i b).leftStickY = d.leftStickY := rfl
@[simp] theorem DataPorts.setMenuBit_dpad (d : DataPorts) (i : Nat) (b : Bool) : (d.setMenuBit i b).dpad = d.dpad := rfl
@[simp] theorem DataPorts.setMenuBit_face (d : DataPorts) (i : Nat) (b : Bool) : (d.setMenuBit i b).face = d.face := rfl
@[simp] theorem DataPorts.setMenuBit_shoulder (d : DataPorts) (i : Nat) (b : Bool) : (d.setMenuBit i b).shoulder = d.shoulder := rfl
@[simp] theorem DataPorts.setMenuBit_menu (d : DataPorts) (i : Nat) (b : Bool) : (d.setMenuBit i b).menu = putBit d.menu i b := rfl
@[simp] theorem DataPorts.setMenuBit_thrustMag (d : DataPorts) (i : Nat) (b : Bool) : (d.setMenuBit i b).thrustMag = d.thrustMag := rfl
@[simp] theorem DataPorts.setMenuBit_thrustDir (d : DataPorts) (i : Nat) (b : Bool) : (d.setMenuBit i b).thrustDir = d.thrustDir := rfl
@[simp] theorem DataPorts.setMenuBit_steerMag (d : DataPorts) (i : Nat) (b : Bool) : (d.setMenuBit i b).steerMag = d.steerMag := rfl
@[simp] theorem DataPorts.setMenuBit_steerDir (d : DataPorts) (i : Nat) (b : Bool) : (d.setMenuBit i b).steerDir = d.steerDir := rfl

@[simp] theorem DataPorts.setThrust_rightStickY (d : DataPorts) (dir : ThrustDir) (mag : Byte) : (d.setThrust dir mag).rightStickY = d.rightStickY := rfl
@[simp] theorem DataPorts.setThrust_rightStickX (d : DataPorts) (dir : ThrustDir) (mag : Byte) : (d.setThrust dir mag).rightStickX = d.rightStickX := rfl
@[simp] theorem DataPorts.setThrust_leftStickX (d : DataPorts) (dir : ThrustDir) (mag : Byte) : (d.setThrust dir mag).leftStickX = d.leftStickX := rfl
@[simp] theorem DataPorts.setThrust_leftStickY (d : DataPorts) (dir : ThrustDir) (mag : Byte) : (d.setThrust dir mag).leftStickY = d.leftStickY := rfl
@[simp] theorem DataPorts.setThrust_dpad (d : DataPorts) (dir : ThrustDir) (mag : Byte) : (d.setThrust dir mag).dpad = d.dpad := rfl
@[simp] theorem DataPorts.setThrust_face (d : DataPorts) (dir : ThrustDir) (mag : Byte) : (d.setThrust dir mag).face = d.face := rfl
@[simp] theorem DataPorts.setThrust_shoulder (d : DataPorts) (dir : ThrustDir) (mag : Byte) : (d.setThrust dir mag).shoulder = d.shoulder := rfl
@[simp] theorem DataPorts.setThrust_menu (d : DataPorts) (dir : ThrustDir) (mag : Byte) : (d.setThrust dir mag).menu = d.menu := rfl
@[simp] theorem DataPorts.setThrust_thrustMag (d : DataPorts) (dir : ThrustDir) (mag : Byte) : (d.setThrust dir mag).thrustMag = mag := rfl
@[simp] theorem DataPorts.setThrust_thrustDir (d : DataPorts) (dir : ThrustDir) (mag : Byte) : (d.setThrust dir mag).thrustDir = thrustCode dir := rfl
@[simp] theorem DataPorts.setThrust_steerMag (d : DataPorts) (dir : ThrustDir) (mag : Byte) : (d.setThrust dir mag).steerMag = d.steerMag := rfl
@[simp] theorem DataPorts.setThrust_steerDir (d : DataPorts) (dir : ThrustDir) (mag : Byte) : (d.setThrust dir mag).steerDir = d.steerDir := rfl

@[simp] theorem DataPorts.setSteer_rightStickY (d : DataPorts) (dir : SteerDir) (mag : Byte) : (d.setSteer dir mag).rightStickY = d.rightStickY := rfl
@[simp] theorem DataPorts.setSteer_rightStickX (d : DataPorts) (dir : SteerDir) (mag : Byte) : (d.setSteer dir mag).rightStickX = d.rightStickX := rfl
@[simp] theorem DataPorts.setSteer_leftStickX (d : DataPorts) (dir : SteerDir) (mag : Byte) : (d.setSteer dir mag).leftStickX = d.leftStickX := rfl
@[simp] theorem DataPorts.setSteer_leftStickY (d : DataPorts) (dir : SteerDir) (mag : Byte) : (d.setSteer dir mag).leftStickY = d.leftStickY := rfl
@[simp] theorem DataPorts.setSteer_dpad (d : DataPorts) (dir : SteerDir) (mag : Byte) : (d.setSteer dir mag).dpad = d.dpad := rfl
@[simp] theorem DataPorts.setSteer_face (d : DataPorts) (dir : SteerDir) (mag : Byte) : (d.setSteer dir mag).face = d.face := rfl
@[simp] theorem DataPorts.setSteer_shoulder (d : DataPorts) (dir : SteerDir) (mag : Byte) : (d.setSteer dir mag).shoulder = d.shoulder := rfl
@[simp] theorem DataPorts.setSteer_menu (d : DataPorts) (dir : SteerDir) (mag : Byte) : (d.setSteer dir mag).menu = d.menu := rfl
@[simp] theorem DataPorts.setSteer_thrustMag (d : DataPorts) (dir : SteerDir) (mag : Byte) : (d.setSteer dir mag).thrustMag = d.thrustMag := rfl
@[simp] theorem DataPorts.setSteer_thrustDir (d : DataPorts) (dir : SteerDir) (mag : Byte) : (d.setSteer dir mag).thrustDir = d.thrustDir := rfl
@[simp] theorem DataPorts.setSteer_steerMag (d : DataPorts) (dir : SteerDir) (mag : Byte) : (d.setSteer dir mag).steerMag = mag := rfl
@[simp] theorem DataPorts.setSteer_steerDir (d : DataPorts) (dir : SteerDir) (mag : Byte) : (d.setSteer dir mag).steerDir = steerCode dir := rfl

@[simp] theorem DataPorts.setControlState_rightStickY (d : DataPorts) (cs : ControlState) : (d.setControlState cs).rightStickY = cs.rightStickY := rfl
@[simp] theorem DataPorts.setControlState_rightStickX (d : DataPorts) (cs : ControlState) : (d.setControlState cs).rightStickX = cs.rightStickX := rfl
@[simp] theorem DataPorts.setControlState_leftStickX (d : DataPorts) (cs : ControlState) : (d.setControlState cs).leftStickX = cs.leftStickX := rfl
@[simp] theorem DataPorts.setControlState_leftStickY (d : DataPorts) (cs : ControlState) : (d.setControlState cs).leftStickY = cs.leftStickY := rfl
@[simp] theorem DataPorts.setControlState_dpad (d : DataPorts) (cs : ControlState) : (d.setControlState cs).dpad = dpadCode cs.dpad := rfl
@[simp] theorem DataPorts.setControlState_face (d : DataPorts) (cs : ControlState) : (d.setControlState cs).face = faceCode cs.face := rfl
@[simp] theorem DataPorts.setControlState_shoulder (d : DataPorts) (cs : ControlState) : (d.setControlState cs).shoulder = shoulderCode cs.shoulder := rfl
@[simp] theorem DataPorts.setControlState_menu (d : DataPorts) (cs : ControlState) : (d.setControlState cs).menu = menuCode cs.menu := rfl
@[simp] theorem DataPorts.setControlState_thrustMag (d : DataPorts) (cs : ControlState) : (d.setControlState cs).thrustMag = d.thrustMag := rfl
@[simp] theorem DataPorts.setControlState_thrustDir (d : DataPorts) (cs : ControlState) : (d.setControlState cs).thrustDir = d.thrustDir := rfl
@[simp] theorem DataPorts.setControlState_steerMag (d : DataPorts) (cs : ControlState) : (d.setControlState cs).steerMag = d.steerMag := rfl
@[simp] theorem DataPorts.setControlState_steerDir (d : DataPorts) (cs : ControlState) : (d.setControlState cs).steerDir = d.steerDir := rfl

@[simp] theorem DataPorts.setCommand_rightStickY (d : DataPorts) (ac : ActuatorCommand) : (d.setCommand ac).rightStickY = d.rightStickY := rfl
@[simp] theorem DataPorts.setCommand_rightStickX (d : DataPorts) (ac : ActuatorCommand) : (d.setCommand ac).rightStickX = d.rightStickX := rfl
@[simp] theorem DataPorts.setCommand_leftStickX (d : DataPorts) (ac : ActuatorCommand) : (d.setCommand ac).leftStickX = d.leftStickX := rfl
@[simp] theorem DataPorts.setCommand_leftStickY (d : DataPorts) (ac : ActuatorCommand) : (d.setCommand ac).leftStickY = d.leftStickY := rfl
@[simp] theorem DataPorts.setCommand_dpad (d : DataPorts) (ac : ActuatorCommand) : (d.setCommand ac).dpad = d.dpad := rfl
@[simp] theorem DataPorts.setCommand_face (d : DataPorts) (ac : ActuatorCommand) : (d.setCommand ac).face = d.face := rfl
@[simp] theorem DataPorts.setCommand_shoulder (d : DataPorts) (ac : ActuatorCommand) : (d.setCommand ac).shoulder = d.shoulder := rfl
@[simp] theorem DataPorts.setCommand_menu (d : DataPorts) (ac : ActuatorCommand) : (d.setCommand ac).menu = d.menu := rfl
@[simp] theorem DataPorts.setCommand_thrustMag (d : DataPorts) (ac : ActuatorCommand) : (d.setCommand ac).thrustMag = ac.thrustMagnitude := rfl
@[simp] theorem DataPorts.setCommand_thrustDir (d : DataPorts) (ac : ActuatorCommand) : (d.setCommand ac).thrustDir = thrustCode ac.thrustDirection := rfl
@[simp] theorem DataPorts.setCommand_steerMag (d : DataPorts) (ac : ActuatorCommand) : (d.setCommand ac).steerMag = ac.steerMagnitude := rfl
@[simp] theorem DataPorts.setCommand_steerDir (d : DataPorts) (ac : ActuatorCommand) : (d.setCommand ac).steerDir = steerCode ac.steerDirection := rfl

/-! ### Updates of the state -/

@[simp] theorem State.setData_inValid (s : State) (d : DataPorts) : (s.setData d).inValid = s.inValid := rfl
@[simp] theorem State.setData_len (s : State) (d : DataPorts) : (s.setData d).len = s.len := rfl
@[simp] theorem State.setData_frame (s : State) (d : DataPorts) : (s.setData d).frame = s.frame := rfl
@[simp] theorem State.setData_upcoming (s : State) (d : DataPorts) : (s.setData d).upcoming = s.upcoming := rfl
@[simp] theorem State.setData_outValid (s : State) (d : DataPorts) : (s.setData d).outValid = s.outValid := rfl
@[simp] theorem State.setData_errIncomplete (s : State) (d : DataPorts) : (s.setData d).errIncomplete = s.errIncomplete := rfl
@[simp] theorem State.setData_data (s : State) (d : DataPorts) : (s.setData d).data = d := rfl
@[simp] theorem State.setData_side (s : State) (d : DataPorts) : (s.setData d).side = s.side := rfl
@[simp] theorem State.setData_magnitude (s : State) (d : DataPorts) : (s.setData d).magnitude = s.magnitude := rfl
@[simp] theorem State.setData_incompleteLen (s : State) (d : DataPorts) : (s.setData d).incompleteLen = s.incompleteLen := rfl
@[simp] theorem State.setData_freeCount (s : State) (d : DataPorts) : (s.setData d).freeCount = s.freeCount := rfl

@[simp] theorem State.setSide_inValid (s : State) (v : Side) : (s.setSide v).inValid = s.inValid := rfl
@[simp] theorem State.setSide_len (s : State) (v : Side) : (s.setSide v).len = s.len := rfl
@[simp] theorem State.setSide_frame (s : State) (v : Side) : (s.setSide v).frame = s.frame := rfl
@[simp] theorem State.setSide_upcoming (s : State) (v : Side) : (s.setSide v).upcoming = s.upcoming := rfl
@[simp] theorem State.setSide_outValid (s : State) (v : Side) : (s.setSide v).outValid = s.outValid := rfl
@[simp] theorem State.setSide_errIncomplete (s : State) (v : Side) : (s.setSide v).errIncomplete = s.errIncomplete := rfl
@[simp] theorem State.setSide_data (s : State) (v : Side) : (s.setSide v).data = s.data := rfl
@[simp] theorem State.setSide_side (s : State) (v : Side) : (s.setSide v).side = v := rfl
@[simp] theorem State.setSide_magnitude (s : State) (v : Side) : (s.setSide v).magnitude = s.magnitude := rfl
@[simp] theorem State.setSide_incompleteLen (s : State) (v : Side) : (s.setSide v).incompleteLen = s.incompleteLen := rfl
@[simp] theorem State.setSide_freeCount (s : State) (v : Side) : (s.setSide v).freeCount = s.freeCount := rfl

@[simp] theorem State.setMagnitude_inValid (s : State) (v : Byte) : (s.setMagnitude v).inValid = s.inValid := rfl
@[simp] theorem State.setMagnitude_len (s : State) (v : Byte) : (s.setMagnitude v).len = s.len := rfl
@[simp] theorem State.setMagnitude_frame (s : State) (v : Byte) : (s.setMagnitude v).frame = s.frame := rfl
@[simp] theorem State.setMagnitude_upcoming (s : State) (v : Byte) : (s.setMagnitude v).upcoming = s.upcoming := rfl
@[simp] theorem State.setMagnitude_outValid (s : State) (v : Byte) : (s.setMagnitude v).outValid = s.outValid := rfl
@[simp] theorem State.setMagnitude_errIncomplete (s : State) (v : Byte) : (s.setMagnitude v).errIncomplete = s.errIncomplete := rfl
@[simp] theorem State.setMagnitude_data (s : State) (v : Byte) : (s.setMagnitude v).data = s.data := rfl
@[simp] theorem State.setMagnitude_side (s : State) (v : Byte) : (s.setMagnitude v).side = s.side := rfl
@[simp] theorem State.setMagnitude_magnitude (s : State) (v : Byte) : (s.setMagnitude v).magnitude = v := rfl
@[simp] theorem State.setMagnitude_incompleteLen (s : State) (v : Byte) : (s.setMagnitude v).incompleteLen = s.incompleteLen := rfl
@[simp] theorem State.setMagnitude_freeCount (s : State) (v : Byte) : (s.setMagnitude v).freeCount = s.freeCount := rfl

@[simp] theorem State.releaseData_inValid (s : State) : s.releaseData.inValid = s.inValid := rfl
@[simp] theorem State.releaseData_len (s : State) : s.releaseData.len = s.len := rfl
@[simp] theorem State.releaseData_frame (s : State) : s.releaseData.frame = s.frame := rfl
@[simp] theorem State.releaseData_upcoming (s : State) : s.releaseData.upcoming = s.upcoming := rfl
@[simp] theorem State.releaseData_outValid (s : State) : s.releaseData.outValid = s.outValid := rfl
@[simp] theorem State.releaseData_errIncomplete (s : State) : s.releaseData.errIncomplete = s.errIncomplete := rfl
@[simp] theorem State.releaseData_data (s : State) : s.releaseData.data = freeData s.freeCount := rfl
@[simp] theorem State.releaseData_side (s : State) : s.releaseData.side = s.side := rfl
@[simp] theorem State.releaseData_magnitude (s : State) : s.releaseData.magnitude = s.magnitude := rfl
@[simp] theorem State.releaseData_incompleteLen (s : State) : s.releaseData.incompleteLen = s.incompleteLen := rfl
@[simp] theorem State.releaseData_freeCount (s : State) : s.releaseData.freeCount = s.freeCount + 1 := rfl

@[simp] theorem State.setStrobes_inValid (s : State) (v e : Bool) (n : Option Len) : (s.setStrobes v e n).inValid = s.inValid := rfl
@[simp] theorem State.setStrobes_len (s : State) (v e : Bool) (n : Option Len) : (s.setStrobes v e n).len = s.len := rfl
@[simp] theorem State.setStrobes_frame (s : State) (v e : Bool) (n : Option Len) : (s.setStrobes v e n).frame = s.frame := rfl
@[simp] theorem State.setStrobes_upcoming (s : State) (v e : Bool) (n : Option Len) : (s.setStrobes v e n).upcoming = s.upcoming := rfl
@[simp] theorem State.setStrobes_outValid (s : State) (v e : Bool) (n : Option Len) : (s.setStrobes v e n).outValid = v := rfl
@[simp] theorem State.setStrobes_errIncomplete (s : State) (v e : Bool) (n : Option Len) : (s.setStrobes v e n).errIncomplete = e := rfl
@[simp] theorem State.setStrobes_data (s : State) (v e : Bool) (n : Option Len) : (s.setStrobes v e n).data = s.data := rfl
@[simp] theorem State.setStrobes_side (s : State) (v e : Bool) (n : Option Len) : (s.setStrobes v e n).side = s.side := rfl
@[simp] theorem State.setStrobes_magnitude (s : State) (v e : Bool) (n : Option Len) : (s.setStrobes v e n).magnitude = s.magnitude := rfl
@[simp] theorem State.setStrobes_incompleteLen (s : State) (v e : Bool) (n : Option Len) : (s.setStrobes v e n).incompleteLen = n := rfl
@[simp] theorem State.setStrobes_freeCount (s : State) (v e : Bool) (n : Option Len) : (s.setStrobes v e n).freeCount = s.freeCount := rfl

@[simp] theorem State.raiseIncompleteFrame_inValid (s : State) (n : Len) : (s.raiseIncompleteFrame n).inValid = s.inValid := rfl
@[simp] theorem State.raiseIncompleteFrame_len (s : State) (n : Len) : (s.raiseIncompleteFrame n).len = s.len := rfl
@[simp] theorem State.raiseIncompleteFrame_frame (s : State) (n : Len) : (s.raiseIncompleteFrame n).frame = s.frame := rfl
@[simp] theorem State.raiseIncompleteFrame_upcoming (s : State) (n : Len) : (s.raiseIncompleteFrame n).upcoming = s.upcoming := rfl
@[simp] theorem State.raiseIncompleteFrame_outValid (s : State) (n : Len) : (s.raiseIncompleteFrame n).outValid = false := rfl
@[simp] theorem State.raiseIncompleteFrame_errIncomplete (s : State) (n : Len) : (s.raiseIncompleteFrame n).errIncomplete = true := rfl
@[simp] theorem State.raiseIncompleteFrame_data (s : State) (n : Len) : (s.raiseIncompleteFrame n).data = freeData s.freeCount := rfl
@[simp] theorem State.raiseIncompleteFrame_side (s : State) (n : Len) : (s.raiseIncompleteFrame n).side = s.side := rfl
@[simp] theorem State.raiseIncompleteFrame_magnitude (s : State) (n : Len) : (s.raiseIncompleteFrame n).magnitude = s.magnitude := rfl
@[simp] theorem State.raiseIncompleteFrame_incompleteLen (s : State) (n : Len) : (s.raiseIncompleteFrame n).incompleteLen = some n := rfl
@[simp] theorem State.raiseIncompleteFrame_freeCount (s : State) (n : Len) : (s.raiseIncompleteFrame n).freeCount = s.freeCount + 1 := rfl

@[simp] theorem State.deliverResult_inValid (s : State) (d : DataPorts) : (s.deliverResult d).inValid = s.inValid := rfl
@[simp] theorem State.deliverResult_len (s : State) (d : DataPorts) : (s.deliverResult d).len = s.len := rfl
@[simp] theorem State.deliverResult_frame (s : State) (d : DataPorts) : (s.deliverResult d).frame = s.frame := rfl
@[simp] theorem State.deliverResult_upcoming (s : State) (d : DataPorts) : (s.deliverResult d).upcoming = s.upcoming := rfl
@[simp] theorem State.deliverResult_outValid (s : State) (d : DataPorts) : (s.deliverResult d).outValid = true := rfl
@[simp] theorem State.deliverResult_errIncomplete (s : State) (d : DataPorts) : (s.deliverResult d).errIncomplete = false := rfl
@[simp] theorem State.deliverResult_data (s : State) (d : DataPorts) : (s.deliverResult d).data = d := rfl
@[simp] theorem State.deliverResult_side (s : State) (d : DataPorts) : (s.deliverResult d).side = s.side := rfl
@[simp] theorem State.deliverResult_magnitude (s : State) (d : DataPorts) : (s.deliverResult d).magnitude = s.magnitude := rfl
@[simp] theorem State.deliverResult_incompleteLen (s : State) (d : DataPorts) : (s.deliverResult d).incompleteLen = none := rfl
@[simp] theorem State.deliverResult_freeCount (s : State) (d : DataPorts) : (s.deliverResult d).freeCount = s.freeCount := rfl

@[simp] theorem State.driveNothing_inValid (s : State) : s.driveNothing.inValid = s.inValid := rfl
@[simp] theorem State.driveNothing_len (s : State) : s.driveNothing.len = s.len := rfl
@[simp] theorem State.driveNothing_frame (s : State) : s.driveNothing.frame = s.frame := rfl
@[simp] theorem State.driveNothing_upcoming (s : State) : s.driveNothing.upcoming = s.upcoming := rfl
@[simp] theorem State.driveNothing_outValid (s : State) : s.driveNothing.outValid = false := rfl
@[simp] theorem State.driveNothing_errIncomplete (s : State) : s.driveNothing.errIncomplete = false := rfl
@[simp] theorem State.driveNothing_data (s : State) : s.driveNothing.data = freeData s.freeCount := rfl
@[simp] theorem State.driveNothing_side (s : State) : s.driveNothing.side = s.side := rfl
@[simp] theorem State.driveNothing_magnitude (s : State) : s.driveNothing.magnitude = s.magnitude := rfl
@[simp] theorem State.driveNothing_incompleteLen (s : State) : s.driveNothing.incompleteLen = none := rfl
@[simp] theorem State.driveNothing_freeCount (s : State) : s.driveNothing.freeCount = s.freeCount + 1 := rfl

@[simp] theorem State.drive_inValid (s : State) (p : PortIn) : (s.drive p).inValid = p.inValid := rfl
@[simp] theorem State.drive_len (s : State) (p : PortIn) : (s.drive p).len = p.len := rfl
@[simp] theorem State.drive_frame (s : State) (p : PortIn) : (s.drive p).frame = Memory.ofFrame p.frame := rfl
@[simp] theorem State.drive_upcoming (s : State) (p : PortIn) : (s.drive p).upcoming = s.upcoming := rfl
@[simp] theorem State.drive_outValid (s : State) (p : PortIn) : (s.drive p).outValid = s.outValid := rfl
@[simp] theorem State.drive_errIncomplete (s : State) (p : PortIn) : (s.drive p).errIncomplete = s.errIncomplete := rfl
@[simp] theorem State.drive_data (s : State) (p : PortIn) : (s.drive p).data = s.data := rfl
@[simp] theorem State.drive_side (s : State) (p : PortIn) : (s.drive p).side = s.side := rfl
@[simp] theorem State.drive_magnitude (s : State) (p : PortIn) : (s.drive p).magnitude = s.magnitude := rfl
@[simp] theorem State.drive_incompleteLen (s : State) (p : PortIn) : (s.drive p).incompleteLen = s.incompleteLen := rfl
@[simp] theorem State.drive_freeCount (s : State) (p : PortIn) : (s.drive p).freeCount = s.freeCount := rfl

/-! ### The environment's next input: only the input ports and the schedule change -/

@[simp] theorem State.presentNext_outValid (s : State) : s.presentNext.outValid = s.outValid := by
  unfold State.presentNext; split <;> rfl
@[simp] theorem State.presentNext_errIncomplete (s : State) : s.presentNext.errIncomplete = s.errIncomplete := by
  unfold State.presentNext; split <;> rfl
@[simp] theorem State.presentNext_data (s : State) : s.presentNext.data = s.data := by
  unfold State.presentNext; split <;> rfl
@[simp] theorem State.presentNext_side (s : State) : s.presentNext.side = s.side := by
  unfold State.presentNext; split <;> rfl
@[simp] theorem State.presentNext_magnitude (s : State) : s.presentNext.magnitude = s.magnitude := by
  unfold State.presentNext; split <;> rfl
@[simp] theorem State.presentNext_incompleteLen (s : State) : s.presentNext.incompleteLen = s.incompleteLen := by
  unfold State.presentNext; split <;> rfl
@[simp] theorem State.presentNext_freeCount (s : State) : s.presentNext.freeCount = s.freeCount := by
  unfold State.presentNext; split <;> rfl

/-- What `presentNext` does to the input side: the schedule used up, or its first entry driven. -/
theorem State.presentNext_cases (s : State) :
    (s.upcoming = [] ∧ s.presentNext = s.drive PortIn.nothing) ∨
    (∃ p rest, s.upcoming = p :: rest ∧ s.presentNext = { s.drive p with upcoming := rest }) := by
  cases h : s.upcoming with
  | nil => exact .inl ⟨rfl, by simp [State.presentNext, h]⟩
  | cons p rest => exact .inr ⟨p, rest, rfl, by simp [State.presentNext, h]⟩

@[simp] theorem State.withRun_outValid (s : State) (run : List (List Byte)) : (s.withRun run).outValid = s.outValid := by
  cases run <;> rfl
@[simp] theorem State.withRun_errIncomplete (s : State) (run : List (List Byte)) : (s.withRun run).errIncomplete = s.errIncomplete := by
  cases run <;> rfl
@[simp] theorem State.withRun_data (s : State) (run : List (List Byte)) : (s.withRun run).data = s.data := by
  cases run <;> rfl
@[simp] theorem State.withRun_side (s : State) (run : List (List Byte)) : (s.withRun run).side = s.side := by
  cases run <;> rfl
@[simp] theorem State.withRun_magnitude (s : State) (run : List (List Byte)) : (s.withRun run).magnitude = s.magnitude := by
  cases run <;> rfl
@[simp] theorem State.withRun_incompleteLen (s : State) (run : List (List Byte)) : (s.withRun run).incompleteLen = s.incompleteLen := by
  cases run <;> rfl
@[simp] theorem State.withRun_freeCount (s : State) (run : List (List Byte)) : (s.withRun run).freeCount = s.freeCount := by
  cases run <;> rfl

/-! ### The operation-level view -/

/-- The result pair, when the strobe is up. -/
theorem State.controlState?_eq_none {s : State} (h : s.outValid = false) : s.controlState? = none := by
  simp [State.controlState?, h]

theorem State.command?_eq_none {s : State} (h : s.outValid = false) : s.command? = none := by
  simp [State.command?, h]

/-- The outcome depends on the strobes, the recorded length and the data ports alone. -/
theorem State.outcome_congr {s t : State} (hv : s.outValid = t.outValid) (hd : s.data = t.data)
    (hn : s.incompleteLen = t.incompleteLen) : s.outcome = t.outcome := by
  simp [State.outcome, State.controlState?, State.command?, hv, hd, hn]

@[simp] theorem State.presentNext_outcome (s : State) : s.presentNext.outcome = s.outcome :=
  State.outcome_congr (by simp) (by simp) (by simp)

end Sys2Proof.Machine
end

