-- ==== Sys2Proof/Laws/Step.lean ====
section
/-! SUPPORT. What a step can do, said once: the fetch, the three `SAMPLE` rows, and the inversion of the step. -/

namespace Sys2Proof.Machine

/-- The fetch never fails: nothing when nothing is presented, else the `SAMPLE` row of the ports. -/
theorem fetch_eq (s : State) :
    fetch s = .ok (if s.inValid then some (sampleRow s.len (Memory.toFrame s.frame)) else none) := by
  cases h : s.inValid <;> simp [fetch, h]

/-- Which row `len` selects (R50). -/
theorem sampleRow_cases (len : Len) (f : Frame) :
    (len.toNat = 8 ∧ sampleRow len f = .sampleOk f) ∨
    (len.toNat < 8 ∧ sampleRow len f = .sampleIncomplete len) ∨
    (8 < len.toNat ∧ sampleRow len f = .sampleRefused len) := by
  rcases Nat.lt_trichotomy len.toNat 8 with h | h | h
  · exact .inr (.inl ⟨h, by simp [sampleRow, h, Nat.ne_of_lt h]⟩)
  · exact .inl ⟨h, by simp [sampleRow, h]⟩
  · exact .inr (.inr ⟨h, by simp [sampleRow, Nat.not_lt.2 h.le, Nat.ne_of_gt h]⟩)

/-- The state a valid sample leaves before the environment drives its next input (R108). -/
def sampledState (s : State) (f : Frame) : State :=
  s.deliverResult ((s.data.setControlState (decodeFrame f)).setCommand (actuate (decodeFrame f)))

/-- Everything a step can do. -/
theorem step_cases (s : State) :
    (s.inValid = false ∧ step s = .next (s.driveNothing).presentNext) ∨
    (s.inValid = true ∧ s.len.toNat = 8 ∧
      step s = .next (sampledState s (Memory.toFrame s.frame)).presentNext) ∨
    (s.inValid = true ∧ s.len.toNat < 8 ∧ step s = .next (s.raiseIncompleteFrame s.len).presentNext) ∨
    (s.inValid = true ∧ 8 < s.len.toNat ∧ step s = .refused (.overlongRead s.len)) := by
  cases h : s.inValid with
  | false => exact .inl ⟨rfl, by simp [step, fetch_eq, h]⟩
  | true =>
    refine .inr ?_
    rcases sampleRow_cases s.len (Memory.toFrame s.frame) with ⟨hl, hr⟩ | ⟨hl, hr⟩ | ⟨hl, hr⟩
    · exact .inl ⟨rfl, hl, by simp only [step, fetch_eq, h, if_true, hr]; rfl⟩
    · exact .inr (.inl ⟨rfl, hl, by simp only [step, fetch_eq, h, if_true, hr]; rfl⟩)
    · exact .inr (.inr ⟨rfl, hl, by simp only [step, fetch_eq, h, if_true, hr]; rfl⟩)

/-- The outcome the caller takes of a valid sample: the pair, with nothing of the state before. -/
theorem sampledState_outcome (s : State) (f : Frame) :
    (sampledState s f).outcome = some (.decoded (decodeFrame f) (actuate (decodeFrame f))) := by
  simp [sampledState, State.outcome, State.controlState?, State.command?]

/-- The outcome of a short read. -/
theorem raiseIncompleteFrame_outcome (s : State) (n : Len) :
    (s.raiseIncompleteFrame n).outcome = some (.incompleteFrame n.toNat) := by
  simp [State.outcome, State.controlState?]

/-- The outcome of a step in which nothing is presented. -/
theorem driveNothing_outcome (s : State) : s.driveNothing.outcome = none := by
  simp [State.outcome, State.controlState?]

/-- One more step of a run that goes on, on any machine. -/
theorem run_succ_of_next (M : Host.Core) (k : Nat) (s t : M.State) (h : M.step s = .next t) :
    M.run (k + 1) s = M.run k t := by
  rw [Host.Core.run, h]

/-- One more step of a run that goes on: the first step, then the rest of the run from where it leaves off. -/
theorem core_run_next (k : Nat) (s t : State) (h : step s = .next t) :
    Host.Core.run Sys2Proof.core (k + 1) s = Host.Core.run Sys2Proof.core k t :=
  run_succ_of_next Sys2Proof.core k s t h

/-- A run whose first step is refused is refused, on any machine. -/
theorem run_succ_of_refused (M : Host.Core) (k : Nat) (s : M.State) (ρ : M.Refusal) (h : M.step s = .refused ρ) :
    M.run (k + 1) s = .refused ρ := by
  rw [Host.Core.run, h]

/-- A run whose first step is refused is refused. -/
theorem core_run_refused (k : Nat) (s : State) (ρ : Refusal) (h : step s = .refused ρ) :
    Host.Core.run Sys2Proof.core (k + 1) s = .refused ρ :=
  run_succ_of_refused Sys2Proof.core k s ρ h

end Sys2Proof.Machine
end

