-- ==== Sys2Proof/Tests/Slice0.lean ====
section
/-! SUPPORT. Tests of the model on values that spec/95_test_vectors.md writes out, and for each statement with hypotheses a
witness that meets them. -/

namespace Sys2Proof.Machine.Tests

/-! ### WellFormed refuses what a row does not carry (R42, R47, R50) -/

theorem test_wf_refuses_dpadN0 : wellFormed (.dpadN0 0xF000018080808001#64) = false := rfl
theorem test_wf_refuses_dpadN1 : wellFormed (.dpadN1 0xF000028080808001#64) = false := rfl
theorem test_wf_refuses_dpadN2 : wellFormed (.dpadN2 0xF000038080808001#64) = false := rfl
theorem test_wf_refuses_dpadN3 : wellFormed (.dpadN3 0xF000048080808001#64) = false := rfl
theorem test_wf_refuses_dpadN4 : wellFormed (.dpadN4 0xF000058080808001#64) = false := rfl
theorem test_wf_refuses_dpadN5 : wellFormed (.dpadN5 0xF000068080808001#64) = false := rfl
theorem test_wf_refuses_dpadN6 : wellFormed (.dpadN6 0xF000078080808001#64) = false := rfl
theorem test_wf_refuses_dpadN7 : wellFormed (.dpadN7 0xF000088080808001#64) = false := rfl
theorem test_wf_refuses_dpadN8 : wellFormed (.dpadN8 0xF000098080808001#64) = false := rfl
theorem test_wf_refuses_dpadN9 : wellFormed (.dpadN9 0xF0000A8080808001#64) = false := rfl
theorem test_wf_refuses_dpadNA : wellFormed (.dpadNA 0xF0000B8080808001#64) = false := rfl
theorem test_wf_refuses_dpadNB : wellFormed (.dpadNB 0xF0000C8080808001#64) = false := rfl
theorem test_wf_refuses_dpadNC : wellFormed (.dpadNC 0xF0000D8080808001#64) = false := rfl
theorem test_wf_refuses_dpadND : wellFormed (.dpadND 0xF0000E8080808001#64) = false := rfl
theorem test_wf_refuses_dpadNE : wellFormed (.dpadNE 0xF0000F8080808001#64) = false := rfl
theorem test_wf_refuses_dpadNF : wellFormed (.dpadNF 0xF000008080808001#64) = false := rfl
theorem test_wf_refuses_remapSideLow : wellFormed (.remapSideLow 0x80#8) = false := rfl
theorem test_wf_refuses_remapSideHigh : wellFormed (.remapSideHigh 0x80#8) = false := rfl
theorem test_wf_refuses_remapMagLow : wellFormed (.remapMagLow 0x80#8) = false := rfl
theorem test_wf_refuses_remapMagHigh : wellFormed (.remapMagHigh 0x80#8) = false := rfl
theorem test_wf_refuses_remapThrustLow : wellFormed (.remapThrustLow 0x80#8) = false := rfl
theorem test_wf_refuses_remapThrustHigh : wellFormed (.remapThrustHigh 0x80#8) = false := rfl
theorem test_wf_refuses_remapSteerLow : wellFormed (.remapSteerLow 0x80#8) = false := rfl
theorem test_wf_refuses_remapSteerHigh : wellFormed (.remapSteerHigh 0x80#8) = false := rfl
theorem test_wf_refuses_sampleIncomplete : wellFormed (.sampleIncomplete 8#4) = false := rfl
theorem test_wf_refuses_sampleRefused : wellFormed (.sampleRefused 8#4) = false := rfl
theorem test_wf_accepts_boundaries :
    wellFormed (.remapMagLow 127#8) = true ∧ wellFormed (.remapMagHigh 129#8) = true ∧
      wellFormed (.sampleIncomplete 7#4) = true ∧ wellFormed (.sampleRefused 9#4) = true := ⟨rfl, rfl, rfl, rfl⟩

/-! ### Every row's decoding, on words written out from 95_test_vectors.md sections 1.5, 1.6, 2.1 to 2.3 -/

/-- The example frame of 40_frame_decoder.md, byte 7 down to byte 0, bytes 5 and 6 bit by bit (R40): byte 6 is R-click, L-click,
Start, Select, R1, L1, R2, L2; byte 5 is Square, Cross, Circle, Triangle, then the D-pad nibble. -/
def exampleFrame : Frame :=
  0xF0#8 ++ 0b00000101#8 ++ 0b00101111#8 ++ 0x78#8 ++ 0x56#8 ++ 0x34#8 ++ 0x12#8 ++ 0x01#8

theorem test_exampleFrame_number : exampleFrame = 0xF0052F7856341201#64 := rfl
theorem test_decode_axisRY : decodeOp .axisRY (.frame64 exampleFrame) = .ok (.axisRY exampleFrame) := rfl
theorem test_decode_axisRX : decodeOp .axisRX (.frame64 exampleFrame) = .ok (.axisRX exampleFrame) := rfl
theorem test_decode_axisLX : decodeOp .axisLX (.frame64 exampleFrame) = .ok (.axisLX exampleFrame) := rfl
theorem test_decode_axisLY : decodeOp .axisLY (.frame64 exampleFrame) = .ok (.axisLY exampleFrame) := rfl
theorem test_decode_dpadN0 :
    decodeOp .dpad (.frame64 0xF000008080808001#64) = .ok (.dpadN0 0xF000008080808001#64) := rfl
theorem test_decode_dpadN1 :
    decodeOp .dpad (.frame64 0xF000018080808001#64) = .ok (.dpadN1 0xF000018080808001#64) := rfl
theorem test_decode_dpadN2 :
    decodeOp .dpad (.frame64 0xF000028080808001#64) = .ok (.dpadN2 0xF000028080808001#64) := rfl
theorem test_decode_dpadN3 :
    decodeOp .dpad (.frame64 0xF000038080808001#64) = .ok (.dpadN3 0xF000038080808001#64) := rfl
theorem test_decode_dpadN4 :
    decodeOp .dpad (.frame64 0xF000048080808001#64) = .ok (.dpadN4 0xF000048080808001#64) := rfl
theorem test_decode_dpadN5 :
    decodeOp .dpad (.frame64 0xF000058080808001#64) = .ok (.dpadN5 0xF000058080808001#64) := rfl
theorem test_decode_dpadN6 :
    decodeOp .dpad (.frame64 0xF000068080808001#64) = .ok (.dpadN6 0xF000068080808001#64) := rfl
theorem test_decode_dpadN7 :
    decodeOp .dpad (.frame64 0xF000078080808001#64) = .ok (.dpadN7 0xF000078080808001#64) := rfl
theorem test_decode_dpadN8 :
    decodeOp .dpad (.frame64 0xF000088080808001#64) = .ok (.dpadN8 0xF000088080808001#64) := rfl
theorem test_decode_dpadN9 :
    decodeOp .dpad (.frame64 0xF000098080808001#64) = .ok (.dpadN9 0xF000098080808001#64) := rfl
theorem test_decode_dpadNA :
    decodeOp .dpad (.frame64 0xF0000A8080808001#64) = .ok (.dpadNA 0xF0000A8080808001#64) := rfl
theorem test_decode_dpadNB :
    decodeOp .dpad (.frame64 0xF0000B8080808001#64) = .ok (.dpadNB 0xF0000B8080808001#64) := rfl
theorem test_decode_dpadNC :
    decodeOp .dpad (.frame64 0xF0000C8080808001#64) = .ok (.dpadNC 0xF0000C8080808001#64) := rfl
theorem test_decode_dpadND :
    decodeOp .dpad (.frame64 0xF0000D8080808001#64) = .ok (.dpadND 0xF0000D8080808001#64) := rfl
theorem test_decode_dpadNE :
    decodeOp .dpad (.frame64 0xF0000E8080808001#64) = .ok (.dpadNE 0xF0000E8080808001#64) := rfl
theorem test_decode_dpadNF :
    decodeOp .dpad (.frame64 0xF0000F8080808001#64) = .ok (.dpadNF 0xF0000F8080808001#64) := rfl
theorem test_decode_btnTriangle :
    decodeOp .btnTriangle (.frame64 0xF0001F8080808001#64) = .ok (.btnTriangle 0xF0001F8080808001#64) := rfl
theorem test_decode_btnCircle :
    decodeOp .btnCircle (.frame64 0xF0002F8080808001#64) = .ok (.btnCircle 0xF0002F8080808001#64) := rfl
theorem test_decode_btnCross :
    decodeOp .btnCross (.frame64 0xF0004F8080808001#64) = .ok (.btnCross 0xF0004F8080808001#64) := rfl
theorem test_decode_btnSquare :
    decodeOp .btnSquare (.frame64 0xF0008F8080808001#64) = .ok (.btnSquare 0xF0008F8080808001#64) := rfl
theorem test_decode_btnL2 :
    decodeOp .btnL2 (.frame64 0xF0010F8080808001#64) = .ok (.btnL2 0xF0010F8080808001#64) := rfl
theorem test_decode_btnR2 :
    decodeOp .btnR2 (.frame64 0xF0020F8080808001#64) = .ok (.btnR2 0xF0020F8080808001#64) := rfl
theorem test_decode_btnL1 :
    decodeOp .btnL1 (.frame64 0xF0040F8080808001#64) = .ok (.btnL1 0xF0040F8080808001#64) := rfl
theorem test_decode_btnR1 :
    decodeOp .btnR1 (.frame64 0xF0080F8080808001#64) = .ok (.btnR1 0xF0080F8080808001#64) := rfl
theorem test_decode_btnSelect :
    decodeOp .btnSelect (.frame64 0xF0100F8080808001#64) = .ok (.btnSelect 0xF0100F8080808001#64) := rfl
theorem test_decode_btnStart :
    decodeOp .btnStart (.frame64 0xF0200F8080808001#64) = .ok (.btnStart 0xF0200F8080808001#64) := rfl
theorem test_decode_btnLStick :
    decodeOp .btnLStick (.frame64 0xF0400F8080808001#64) = .ok (.btnLStick 0xF0400F8080808001#64) := rfl
theorem test_decode_btnRStick :
    decodeOp .btnRStick (.frame64 0xF0800F8080808001#64) = .ok (.btnRStick 0xF0800F8080808001#64) := rfl
theorem test_decode_decode : decodeOp .decode (.frame64 exampleFrame) = .ok (.decode exampleFrame) := rfl
theorem test_decode_remapSideLow : decodeOp .remapSide (.raw8 0b01000000#8) = .ok (.remapSideLow 64#8) := rfl
theorem test_decode_remapSideMid : decodeOp .remapSide (.raw8 0b10000000#8) = .ok .remapSideMid := rfl
theorem test_decode_remapSideHigh : decodeOp .remapSide (.raw8 0b10000001#8) = .ok (.remapSideHigh 129#8) := rfl
theorem test_decode_remapMagLow : decodeOp .remapMag (.raw8 0b01000000#8) = .ok (.remapMagLow 64#8) := rfl
theorem test_decode_remapMagMid : decodeOp .remapMag (.raw8 0b10000000#8) = .ok .remapMagMid := rfl
theorem test_decode_remapMagHigh : decodeOp .remapMag (.raw8 0b10000001#8) = .ok (.remapMagHigh 129#8) := rfl
theorem test_decode_remapThrustLow : decodeOp .remapThrust (.raw8 0b01000000#8) = .ok (.remapThrustLow 64#8) := rfl
theorem test_decode_remapThrustMid : decodeOp .remapThrust (.raw8 0b10000000#8) = .ok .remapThrustMid := rfl
theorem test_decode_remapThrustHigh : decodeOp .remapThrust (.raw8 0b10000001#8) = .ok (.remapThrustHigh 129#8) := rfl
theorem test_decode_remapSteerLow : decodeOp .remapSteer (.raw8 0b01000000#8) = .ok (.remapSteerLow 64#8) := rfl
theorem test_decode_remapSteerMid : decodeOp .remapSteer (.raw8 0b10000000#8) = .ok .remapSteerMid := rfl
theorem test_decode_remapSteerHigh : decodeOp .remapSteer (.raw8 0b10000001#8) = .ok (.remapSteerHigh 129#8) := rfl
/-- The `ControlState` of the example frame E (vector F9). -/
def exampleControlState : ControlState :=
  { rightStickY := 18, rightStickX := 52, leftStickX := 86, leftStickY := 120, dpad := .idle
    face := { triangle := false, circle := true, cross := false, square := false }
    shoulder := { l1 := true, l2 := true, r1 := false, r2 := false }
    menu := { select := false, start := false, leftStickClick := false, rightStickClick := false } }

theorem test_decodeFrame_example : decodeFrame exampleFrame = exampleControlState := rfl
theorem test_decode_actuate : decodeOp .actuate (.frame64 exampleFrame) = .ok (.actuate exampleControlState) := rfl
theorem test_decode_sampleOk :
    decode [0x01, 0x12, 0x34, 0x56, 0x78, 0x2F, 0x05, 0xF0] = .ok (.sampleOk exampleFrame) := rfl
theorem test_decode_sampleOk_len :
    decodeOp .sample (.len4 0b1000#4 exampleFrame) = .ok (.sampleOk exampleFrame) := rfl
theorem test_decode_sampleIncomplete :
    decode [0x01, 0x80, 0x80, 0x80, 0x80, 0x0F, 0x00] = .ok (.sampleIncomplete 0b0111#4) := rfl
theorem test_decode_sampleIncomplete_empty : decode [] = .ok (.sampleIncomplete 0#4) := rfl
theorem test_decode_sampleRefused :
    decode [0x01, 0x80, 0x80, 0x80, 0x80, 0x0F, 0x00, 0xF0, 0x00] = .ok (.sampleRefused 0b1001#4) := rfl
theorem test_decode_sixteen_bytes : decode (List.replicate 16 0) = .ok (.sampleRefused 15) := rfl
theorem test_decode_wrong_format : decodeOp .dpad (.raw8 0x80#8) = .error (.wrongFormat .dpad .raw8) := rfl
/-- The encoder writes 0 in the two ignored bytes (log 9). -/
theorem test_encode_actuate : encode (.actuate exampleControlState) = .frame64 0x00052F7856341200#64 := rfl
/-- Vector F5. -/
theorem test_decodeFrame_all_buttons :
    decodeFrame 0xF0FFF00302010001#64 =
      { rightStickY := 0, rightStickX := 1, leftStickX := 2, leftStickY := 3, dpad := .up
        face := ⟨true, true, true, true⟩, shoulder := ⟨true, true, true, true⟩, menu := ⟨true, true, true, true⟩ } := rfl
/-- Vector F6. -/
theorem test_decodeFrame_mixed :
    decodeFrame 0xF0A590FCFDFEFF01#64 =
      { rightStickY := 255, rightStickX := 254, leftStickX := 253, leftStickY := 252, dpad := .up
        face := { triangle := true, circle := false, cross := false, square := true }
        shoulder := { l1 := true, l2 := true, r1 := false, r2 := false }
        menu := { select := false, start := true, leftStickClick := false, rightStickClick := true } } := rfl
theorem test_decodeTableWord_frame : decodeTableWord 64 0xF0052F7856341201 = some (.sampleOk exampleFrame) := rfl
theorem test_decodeTableWord_len :
    decodeTableWord 8 0x3 = some (.sampleIncomplete 3#4) ∧ decodeTableWord 8 0x9 = some (.sampleRefused 9#4) := ⟨rfl, rfl⟩
theorem test_decodeTableWord_raw : decodeTableWord 8 0x81 = some (.sampleOk 0x0000008100810000#64) := rfl

/-! ### Each instruction, one step; the values of 95_test_vectors.md -/

/-- Ports that all hold ones, so that an instruction which writes too much or too little shows. -/
def onesOnPorts : DataPorts :=
  { rightStickY := 255, rightStickX := 255, leftStickX := 255, leftStickY := 255, dpad := 7, face := 15, shoulder := 15,
    menu := 15, thrustMag := 255, thrustDir := 1, steerMag := 255, steerDir := 3 }

/-- The data ports after an instruction, from ports that all hold ones. -/
def portsAfter (i : Instr) : Option DataPorts :=
  match exec i { State.reset with data := onesOnPorts } with
  | .next t => some t.data
  | _ => none

theorem test_exec_axisRY : portsAfter (.axisRY exampleFrame) = some { onesOnPorts with rightStickY := 18 } := rfl
theorem test_exec_axisRX : portsAfter (.axisRX exampleFrame) = some { onesOnPorts with rightStickX := 52 } := rfl
theorem test_exec_axisLX : portsAfter (.axisLX exampleFrame) = some { onesOnPorts with leftStickX := 86 } := rfl
theorem test_exec_axisLY : portsAfter (.axisLY exampleFrame) = some { onesOnPorts with leftStickY := 120 } := rfl
theorem test_exec_dpadN0 : portsAfter (.dpadN0 0xF000008080808001#64) = some { onesOnPorts with dpad := 0 } := rfl
theorem test_exec_dpadN1 : portsAfter (.dpadN1 0xF000018080808001#64) = some { onesOnPorts with dpad := 4 } := rfl
theorem test_exec_dpadN2 : portsAfter (.dpadN2 0xF000028080808001#64) = some { onesOnPorts with dpad := 1 } := rfl
theorem test_exec_dpadN3 : portsAfter (.dpadN3 0xF000038080808001#64) = some { onesOnPorts with dpad := 4 } := rfl
theorem test_exec_dpadN4 : portsAfter (.dpadN4 0xF000048080808001#64) = some { onesOnPorts with dpad := 2 } := rfl
theorem test_exec_dpadN5 : portsAfter (.dpadN5 0xF000058080808001#64) = some { onesOnPorts with dpad := 4 } := rfl
theorem test_exec_dpadN6 : portsAfter (.dpadN6 0xF000068080808001#64) = some { onesOnPorts with dpad := 3 } := rfl
theorem test_exec_dpadN7 : portsAfter (.dpadN7 0xF000078080808001#64) = some { onesOnPorts with dpad := 4 } := rfl
theorem test_exec_dpadN8 : portsAfter (.dpadN8 0xF000088080808001#64) = some { onesOnPorts with dpad := 4 } := rfl
theorem test_exec_dpadN9 : portsAfter (.dpadN9 0xF000098080808001#64) = some { onesOnPorts with dpad := 4 } := rfl
theorem test_exec_dpadNA : portsAfter (.dpadNA 0xF0000A8080808001#64) = some { onesOnPorts with dpad := 4 } := rfl
theorem test_exec_dpadNB : portsAfter (.dpadNB 0xF0000B8080808001#64) = some { onesOnPorts with dpad := 4 } := rfl
theorem test_exec_dpadNC : portsAfter (.dpadNC 0xF0000C8080808001#64) = some { onesOnPorts with dpad := 4 } := rfl
theorem test_exec_dpadND : portsAfter (.dpadND 0xF0000D8080808001#64) = some { onesOnPorts with dpad := 4 } := rfl
theorem test_exec_dpadNE : portsAfter (.dpadNE 0xF0000E8080808001#64) = some { onesOnPorts with dpad := 4 } := rfl
theorem test_exec_dpadNF : portsAfter (.dpadNF 0xF0000F8080808001#64) = some { onesOnPorts with dpad := 4 } := rfl
theorem test_exec_btnTriangle_off :
    portsAfter (.btnTriangle 0xF0FFEF8080808001#64) = some { onesOnPorts with face := 0xE } := rfl
theorem test_exec_btnTriangle_on : (portsAfter (.btnTriangle 0xF0001F8080808001#64)) = some onesOnPorts := rfl
theorem test_exec_btnCircle_off :
    portsAfter (.btnCircle 0xF0FFDF8080808001#64) = some { onesOnPorts with face := 0xD } := rfl
theorem test_exec_btnCircle_on : (portsAfter (.btnCircle 0xF0002F8080808001#64)) = some onesOnPorts := rfl
theorem test_exec_btnCross_off :
    portsAfter (.btnCross 0xF0FFBF8080808001#64) = some { onesOnPorts with face := 0xB } := rfl
theorem test_exec_btnCross_on : (portsAfter (.btnCross 0xF0004F8080808001#64)) = some onesOnPorts := rfl
theorem test_exec_btnSquare_off :
    portsAfter (.btnSquare 0xF0FF7F8080808001#64) = some { onesOnPorts with face := 0x7 } := rfl
theorem test_exec_btnSquare_on : (portsAfter (.btnSquare 0xF0008F8080808001#64)) = some onesOnPorts := rfl
theorem test_exec_btnL2_off :
    portsAfter (.btnL2 0xF0FEFF8080808001#64) = some { onesOnPorts with shoulder := 0xE } := rfl
theorem test_exec_btnL2_on : (portsAfter (.btnL2 0xF0010F8080808001#64)) = some onesOnPorts := rfl
theorem test_exec_btnR2_off :
    portsAfter (.btnR2 0xF0FDFF8080808001#64) = some { onesOnPorts with shoulder := 0xD } := rfl
theorem test_exec_btnR2_on : (portsAfter (.btnR2 0xF0020F8080808001#64)) = some onesOnPorts := rfl
theorem test_exec_btnL1_off :
    portsAfter (.btnL1 0xF0FBFF8080808001#64) = some { onesOnPorts with shoulder := 0xB } := rfl
theorem test_exec_btnL1_on : (portsAfter (.btnL1 0xF0040F8080808001#64)) = some onesOnPorts := rfl
theorem test_exec_btnR1_off :
    portsAfter (.btnR1 0xF0F7FF8080808001#64) = some { onesOnPorts with shoulder := 0x7 } := rfl
theorem test_exec_btnR1_on : (portsAfter (.btnR1 0xF0080F8080808001#64)) = some onesOnPorts := rfl
theorem test_exec_btnSelect_off :
    portsAfter (.btnSelect 0xF0EFFF8080808001#64) = some { onesOnPorts with menu := 0xE } := rfl
theorem test_exec_btnSelect_on : (portsAfter (.btnSelect 0xF0100F8080808001#64)) = some onesOnPorts := rfl
theorem test_exec_btnStart_off :
    portsAfter (.btnStart 0xF0DFFF8080808001#64) = some { onesOnPorts with menu := 0xD } := rfl
theorem test_exec_btnStart_on : (portsAfter (.btnStart 0xF0200F8080808001#64)) = some onesOnPorts := rfl
theorem test_exec_btnLStick_off :
    portsAfter (.btnLStick 0xF0BFFF8080808001#64) = some { onesOnPorts with menu := 0xB } := rfl
theorem test_exec_btnLStick_on : (portsAfter (.btnLStick 0xF0400F8080808001#64)) = some onesOnPorts := rfl
theorem test_exec_btnRStick_off :
    portsAfter (.btnRStick 0xF07FFF8080808001#64) = some { onesOnPorts with menu := 0x7 } := rfl
theorem test_exec_btnRStick_on : (portsAfter (.btnRStick 0xF0800F8080808001#64)) = some onesOnPorts := rfl
theorem test_exec_decode :
    portsAfter (.decode exampleFrame) = some
      { onesOnPorts with
        rightStickY := 18, rightStickX := 52, leftStickX := 86, leftStickY := 120, dpad := 4, face := 2, shoulder := 5, menu := 0 } := rfl
theorem test_exec_decode_all :
    portsAfter (.decode 0xF0A590FCFDFEFF01#64) = some
      { onesOnPorts with
        rightStickY := 255, rightStickX := 254, leftStickX := 253, leftStickY := 252, dpad := 0, face := 9, shoulder := 5,
        menu := 10 } := rfl
/-- The two results no port carries, after an instruction. -/
def resultsAfter (i : Instr) : Option (Side × Byte) :=
  match exec i { State.reset with magnitude := 77 } with
  | .next t => some (t.side, t.magnitude)
  | _ => none

theorem test_exec_remapSideLow : resultsAfter (.remapSideLow 127) = some (.low, 77) := rfl
theorem test_exec_remapSideMid : resultsAfter .remapSideMid = some (.low, 77) := rfl
theorem test_exec_remapSideHigh : resultsAfter (.remapSideHigh 129) = some (.high, 77) := rfl
theorem test_exec_remapMagLow : resultsAfter (.remapMagLow 64) = some (.low, 127) := rfl
theorem test_exec_remapMagLow_end : resultsAfter (.remapMagLow 1) = some (.low, 253) := rfl
theorem test_exec_remapMagMid : resultsAfter .remapMagMid = some (.low, 0) := rfl
theorem test_exec_remapMagHigh : resultsAfter (.remapMagHigh 171) = some (.low, 85) := rfl
theorem test_exec_remapMagHigh_end : resultsAfter (.remapMagHigh 254) = some (.low, 252) := rfl
theorem test_exec_remapThrustLow_120 :
    portsAfter (.remapThrustLow 120) = some { onesOnPorts with thrustDir := 0, thrustMag := 15 } := rfl
theorem test_exec_remapThrustLow_0 :
    portsAfter (.remapThrustLow 0) = some { onesOnPorts with thrustDir := 0, thrustMag := 255 } := rfl
theorem test_exec_remapThrustMid :
    portsAfter .remapThrustMid = some { onesOnPorts with thrustDir := 0, thrustMag := 0 } := rfl
theorem test_exec_remapThrustHigh_129 :
    portsAfter (.remapThrustHigh 129) = some { onesOnPorts with thrustDir := 1, thrustMag := 0 } := rfl
theorem test_exec_remapThrustHigh_213 :
    portsAfter (.remapThrustHigh 213) = some { onesOnPorts with thrustDir := 1, thrustMag := 170 } := rfl
theorem test_exec_remapSteerLow_127 :
    portsAfter (.remapSteerLow 127) = some { onesOnPorts with steerDir := 1, steerMag := 1 } := rfl
theorem test_exec_remapSteerLow_63 :
    portsAfter (.remapSteerLow 63) = some { onesOnPorts with steerDir := 1, steerMag := 129 } := rfl
theorem test_exec_remapSteerMid :
    portsAfter .remapSteerMid = some { onesOnPorts with steerDir := 0, steerMag := 0 } := rfl
theorem test_exec_remapSteerHigh_130 :
    portsAfter (.remapSteerHigh 130) = some { onesOnPorts with steerDir := 2, steerMag := 2 } := rfl
theorem test_exec_remapSteerHigh_255 :
    portsAfter (.remapSteerHigh 255) = some { onesOnPorts with steerDir := 2, steerMag := 255 } := rfl
/-- Axes `ry rx lx ly`, everything else off. -/
def axesOnly (ry rx lx ly : Byte) : ControlState :=
  { exampleControlState with rightStickY := ry, rightStickX := rx, leftStickX := lx, leftStickY := ly }

/-- Section 2.2, the last row of the `ACTUATE` table. -/
theorem test_exec_actuate :
    portsAfter (.actuate (axesOnly 77 200 13 100)) = some
      { onesOnPorts with thrustMag := 55, thrustDir := 0, steerMag := 143, steerDir := 2 } := rfl
/-- Section 2.2: thrust `Reverse` and steering `Straight` at magnitude 0. -/
theorem test_exec_actuate_straight :
    portsAfter (.actuate (axesOnly 0 128 255 129)) = some
      { onesOnPorts with thrustMag := 0, thrustDir := 1, steerMag := 0, steerDir := 0 } := rfl
/-- The machine with one reader result presented, as `withRun` presents it. -/
def presented (bytes : List Byte) : State := State.reset.withRun [bytes]

/-- The strobes, the recorded length and the data ports after one step. -/
def stepPorts (s : State) : Option (Bool × Bool × Option Len × DataPorts) :=
  match step s with
  | .next t => some (t.outValid, t.errIncomplete, t.incompleteLen, t.data)
  | _ => none

/-- The strobes and the recorded length alone, for a step that leaves the data ports unspecified. -/
def stepStrobes (s : State) : Option (Bool × Bool × Option Len) := (stepPorts s).map fun p => (p.1, p.2.1, p.2.2.1)

/-- Vector F9. -/
theorem test_exec_sampleOk :
    portsAfter (.sampleOk exampleFrame) = some
      { rightStickY := 18, rightStickX := 52, leftStickX := 86, leftStickY := 120, dpad := 4, face := 2, shoulder := 5,
        menu := 0, thrustMag := 15, thrustDir := 0, steerMag := 151, steerDir := 1 } := rfl
/-- Scenario 2 (section 1.8). -/
theorem test_step_sampleOk :
    stepPorts (presented [0x01, 0x80, 0xFF, 0x80, 0x00, 0x0F, 0x00, 0xF0]) = some (true, false, none,
      { rightStickY := 0x80, rightStickX := 0xFF, leftStickX := 0x80, leftStickY := 0, dpad := 4, face := 0, shoulder := 0,
        menu := 0, thrustMag := 255, thrustDir := 0, steerMag := 255, steerDir := 2 }) := rfl
/-- Vector S3, P1 line 4. -/
theorem test_step_sampleIncomplete : stepStrobes (presented [0x01, 0x80, 0x40]) = some (false, true, some 3#4) := rfl
/-- Vector S0. -/
theorem test_step_sampleIncomplete_empty : stepStrobes (presented []) = some (false, true, some 0#4) := rfl
/-- Vector S9. -/
theorem test_step_sampleRefused :
    step (presented [0x01, 0x80, 0x80, 0x80, 0x80, 0x0F, 0x00, 0xF0, 0x00]) =
      .refused (.overlongRead 9#4) := rfl
/-- Vector S10. -/
theorem test_step_nothing : stepStrobes State.reset = some (false, false, none) := rfl
/-- Vector F7, placed as a table word. -/
theorem test_step_withFetchWord :
    stepPorts (State.reset.withFetchWord 64 0xF021528080808001) = some (true, false, none,
      { rightStickY := 128, rightStickX := 128, leftStickX := 128, leftStickY := 128, dpad := 1, face := 5, shoulder := 1,
        menu := 2, thrustMag := 0, thrustDir := 0, steerMag := 0, steerDir := 0 }) := rfl

/-! ### Witnesses: for each statement with hypotheses, a state and operands that meet them -/

/-- The example frame with other bytes 0 and 7. -/
def exampleFrameOtherEnds : Frame := 0x00052F7856341277#64

theorem test_witness_DecodeOfEncodeIsIdentity :
    WellFormed (.dpadN9 0xF000098080808001#64) ∧ WellFormed (.dpadNF exampleFrame) ∧ WellFormed (.btnL2 exampleFrame) ∧
    WellFormed (.remapSideLow 127) ∧ WellFormed (.remapSideHigh 129) ∧ WellFormed (.remapMagLow 0) ∧
    WellFormed (.remapMagHigh 255) ∧ WellFormed .remapThrustMid ∧ WellFormed (.remapSteerHigh 129) ∧
    WellFormed (.sampleIncomplete 7) ∧ WellFormed (.sampleRefused 9) ∧ WellFormed (.actuate exampleControlState) :=
  ⟨rfl, rfl, rfl, rfl, rfl, rfl, rfl, rfl, rfl, rfl, rfl, rfl⟩

/-- A value with an applying row, one with two applying rows (raw 128), and one with none. -/
theorem test_witness_DecodedRowIsTheWinningRow :
    (decodeOp .dpad (.frame64 exampleFrame) = .ok (.dpadNF exampleFrame) ∧
      ((rowsOf .dpad).any fun r => r.applies (TableValue.frame64 exampleFrame).number) = true) ∧
    (decodeOp .remapMag (.raw8 128) = .ok .remapMagMid ∧
      ((rowsOf .remapMag).any fun r => r.applies (TableValue.raw8 128).number) = true) ∧
    (decodeOp .btnSquare (.frame64 exampleFrame) = .ok (.btnSquare exampleFrame) ∧
      ((rowsOf .btnSquare).any fun r => r.applies (TableValue.frame64 exampleFrame).number) = false) :=
  ⟨⟨rfl, rfl⟩, ⟨rfl, rfl⟩, rfl, rfl⟩

theorem test_witness_DecoderAnswersExactlyItsFormat :
    (∀ r ∈ rowsOf .sample, r.format = (TableValue.len4 8 exampleFrame).format) ∧
    ¬ ∀ r ∈ rowsOf .dpad, r.format = (TableValue.raw8 128).format := by decide

/-- Frames that differ in bytes 0 and 7 alone; in bit 8; in bit 55; in bit 40 with both nibbles `Idle` (0xF and 0xE); and in
bit 40 with both nibbles values of the table's default and of the table (1 and 0). -/
theorem test_witness_DecodeSeparatesFrames :
    (∀ k, 1 ≤ k → k ≤ 6 → frameByte exampleFrame k = frameByte exampleFrameOtherEnds k) ∧
    frameBit 0x000000000000#64 8 ≠ frameBit 0x000000000100#64 8 ∧
    frameBit 0x00000000000000#64 55 ≠ frameBit 0x80000000000000#64 55 ∧
    (frameBit 0x0F0000000000#64 40 ≠ frameBit 0x0E0000000000#64 40 ∧
      decodeFrame 0x0F0000000000#64 = decodeFrame 0x0E0000000000#64) ∧
    (frameBit 0x010000000000#64 40 ≠ frameBit 0x000000000000#64 40 ∧
      decodeFrame 0x010000000000#64 ≠ decodeFrame 0x000000000000#64) := by
  refine ⟨fun k h1 h6 => ?_, by decide, by decide, by decide, by decide⟩
  interval_cases k <;> rfl

/-- Byte 5 of the example, its Circle bit set and its Cross bit clear; and the last bit of the frame. -/
theorem test_witness_ButtonBitIndexAgreesWithByteMask :
    frameBit exampleFrame (8 * 5 + 5) = true ∧ frameByte exampleFrame 5 &&& BitVec.ofNat 8 (2 ^ 5) ≠ 0#8 ∧
    frameBit exampleFrame (8 * 5 + 6) = false ∧ frameByte exampleFrame 5 &&& BitVec.ofNat 8 (2 ^ 6) = 0#8 ∧
    frameBit exampleFrame (8 * 7 + 7) = true ∧ frameByte exampleFrame 7 &&& BitVec.ofNat 8 (2 ^ 7) ≠ 0#8 := by decide

/-- The frames of the first and of the last button (section 1.5): Triangle and RightStickClick. -/
theorem test_witness_SingleButtonFrameRoundTrip :
    (0 < 12 ∧ frameOfBytes [0x01, 0x80, 0x80, 0x80, 0x80, 0x0F ||| BitVec.ofNat 8 (2 ^ (4 + 0)),
      BitVec.ofNat 8 (2 ^ (4 + 0) / 256), 0xF0] = 0xF0001F8080808001#64) ∧
    (11 < 12 ∧ frameOfBytes [0x01, 0x80, 0x80, 0x80, 0x80, 0x0F ||| BitVec.ofNat 8 (2 ^ (4 + 11)),
      BitVec.ofNat 8 (2 ^ (4 + 11) / 256), 0xF0] = 0xF0800F8080808001#64) := by decide

theorem test_witness_FieldRowsInAnyOrderAreDecode : (fieldRows exampleFrame).reverse.Perm (fieldRows exampleFrame) :=
  List.reverse_perm _

theorem test_witness_CommandRowsInEitherOrderAreActuate :
    [Instr.remapSteerLow 52, .remapThrustLow 120].Perm (commandRows exampleControlState) :=
  List.Perm.swap _ _ []

theorem test_witness_SampleIsItsRowsInAnyOrder :
    (fieldRows exampleFrame ++ commandRows (decodeFrame exampleFrame)).reverse.Perm
      (fieldRows exampleFrame ++ commandRows (decodeFrame exampleFrame)) :=
  List.reverse_perm _

/-- The ends of the `.LOW` and `.HIGH` ranges, for the statements about sides, magnitudes, thrust and steering. -/
theorem test_witness_operand_ranges :
    (0#8).toNat ≤ 127 ∧ (127#8).toNat ≤ 127 ∧ 129 ≤ (129#8).toNat ∧ 129 ≤ (255#8).toNat ∧
    ¬ (128#8).toNat ≤ 127 ∧ ¬ 129 ≤ (128#8).toNat := by decide

theorem test_witness_MagnitudeProperties :
    ((0#8).toNat ≤ (128#8).toNat ∧ (128#8).toNat ≤ 128) ∧ (129 ≤ (129#8).toNat ∧ (129#8).toNat ≤ (255#8).toNat) ∧
    (axesOnly 0 200 0 200).leftStickY = (axesOnly 0 200 0 200).rightStickX := by decide

theorem test_witness_MagnitudeArithmetic :
    (0#8).toNat ≤ 128 ∧ (128#8).toNat ≤ 128 ∧ 129 ≤ (129#8).toNat ∧ 129 ≤ (255#8).toNat := by decide

theorem test_witness_PinnedPoints :
    (axesOnly 128 255 128 0).rightStickX = 255 ∧ (axesOnly 128 255 128 0).leftStickY = 0 := ⟨rfl, rfl⟩

theorem test_witness_SampleIncompleteInstruction :
    (0#4).toNat < 8 ∧ (7#4).toNat < 8 ∧
    (∃ t, exec (.sampleIncomplete 7#4) State.reset = .next t ∧ t.errIncomplete = true) :=
  ⟨by decide, by decide, _, rfl, rfl⟩

theorem test_witness_SampleRefusedInstruction :
    8 < (9#4).toNat ∧ 8 < (15#4).toNat ∧ exec (.sampleRefused 15#4) State.reset = .refused (.overlongRead 15#4) :=
  ⟨by decide, by decide, rfl⟩

/-- A state with a schedule after the presented frame, for the second half of the third clause. -/
def twoPresented : State :=
  State.reset.withRun [[0x01, 0x12, 0x34, 0x56, 0x78, 0x2F, 0x05, 0xF0], [0x01, 0x80, 0x40]]

theorem test_witness_StepRunsTheDecodedInstruction :
    (twoPresented.inValid = true ∧ readFrame twoPresented.frame = .ok exampleFrame ∧ State.reset.upcoming = [] ∧
      twoPresented.upcoming = [{ inValid := true, len := 3, frame := 0x0000000000408001#64 }]) ∧
    decode [] = .ok (.sampleIncomplete 0) ∧ decode [0x01, 0x80, 0x40] = .ok (.sampleIncomplete 3) ∧
    decode (List.replicate 15 0) = .ok (.sampleRefused 15) :=
  ⟨⟨rfl, rfl, rfl, rfl⟩, rfl, rfl, rfl⟩

/-- Lengths at the ends of each clause: 0 and 7, 8, 9; and 16 and 24, whose low four bits would be 0 and 8. -/
theorem test_witness_SampleOfAReaderResult :
    ([] : List Byte).length < 8 ∧ (List.replicate 7 (1#8)).length < 8 ∧ (List.replicate 8 (1#8)).length = 8 ∧
    8 < (List.replicate 9 (1#8)).length ∧ 8 < (List.replicate 16 (1#8)).length ∧
    8 < (List.replicate 24 (1#8)).length ∧
    step (State.reset.drive (PortIn.ofReader (List.replicate 16 0))) = .refused (.overlongRead 15) ∧
    step (State.reset.drive (PortIn.ofReader (List.replicate 24 0))) = .refused (.overlongRead 15) :=
  ⟨by decide, by decide, by decide, by decide, by decide, by decide, rfl, rfl⟩

theorem test_witness_ShortReadIsTheErrorAlone :
    ((presented []).inValid = true ∧ (presented []).len.toNat < 8) ∧
    (presented (List.replicate 7 0x80)).inValid = true ∧ (presented (List.replicate 7 0x80)).len.toNat < 8 := by decide

theorem test_witness_StepWithNothingPresented : State.reset.inValid = false := rfl

theorem test_witness_StrobesFollowTheInputPorts :
    (∃ t, step State.reset = .next t) ∧ (∃ t, step twoPresented = .next t) ∧ (∃ t, step (presented [0x01]) = .next t) :=
  ⟨⟨_, rfl⟩, ⟨_, rfl⟩, _, rfl⟩

/-- Nibble 9 (undefined), 0xF (the table's own `Idle`) and 7 (next to a table value). -/
theorem test_witness_UndefinedNibbleIsSilentlyIdle :
    ((presented (bytesOfFrame 0xF000098080808001#64)).inValid = true ∧
      (presented (bytesOfFrame 0xF000098080808001#64)).len.toNat = 8 ∧
      readFrame (presented (bytesOfFrame 0xF000098080808001#64)).frame = .ok 0xF000098080808001#64) ∧
    (dpadNibble 0xF000098080808001#64).toNat ∉ [0x0, 0x2, 0x4, 0x6] ∧
    (dpadNibble 0xF0000F8080808001#64).toNat ∉ [0x0, 0x2, 0x4, 0x6] ∧
    (dpadNibble 0xF000078080808001#64).toNat ∉ [0x0, 0x2, 0x4, 0x6] :=
  ⟨⟨rfl, rfl, rfl⟩, by decide, by decide, by decide⟩

/-- Both sides of the refusal: a read of 9 bytes is refused and one of 8 bytes is not. -/
theorem test_witness_StepStopsOnlyOnALongRead :
    step (presented (List.replicate 9 0)) = .refused (.overlongRead 9) ∧
    ∃ t, step (presented (List.replicate 8 0)) = .next t :=
  ⟨rfl, _, rfl⟩

/-- Two different states that agree on what a step looks at: a full read with other bytes 0 and 7 and another history; a short
read with other bytes; no read with another `len`; a long read. -/
theorem test_witness_OutcomeDependsOnTheSampleAlone :
    (presented (bytesOfFrame exampleFrame)).inValid = twoPresented.inValid ∧
    (presented (bytesOfFrame exampleFrameOtherEnds)).len = twoPresented.len ∧
    (∀ k, 1 ≤ k → k ≤ 6 → readByte (presented (bytesOfFrame exampleFrameOtherEnds)).frame k = readByte twoPresented.frame k) ∧
    ((presented [0x01]).inValid = (presented [0x02]).inValid ∧ (presented [0x01]).len = (presented [0x02]).len ∧
      (presented [0x01]).len.toNat ≠ 8) ∧
    State.reset.inValid = { State.reset with len := 3 }.inValid ∧
    (presented (List.replicate 9 0)).len = (presented (List.replicate 9 1)).len := by
  refine ⟨rfl, rfl, fun k h1 h6 => ?_, ⟨rfl, rfl, by decide⟩, rfl, rfl⟩
  interval_cases k <;> rfl

/-- Program P4 (section 3): short reads of 3, 5, 0 and 7 bytes around a full one. -/
def programP4 : List (List Byte) :=
  [[0x01, 0x80, 0x80], [0x80, 0x80, 0x0F, 0x00, 0xF0], [0x01, 0x80, 0x80, 0x80, 0x80, 0x0F, 0x00, 0xF0], [],
    [0x01, 0x80, 0x80, 0x80, 0x80, 0x0F, 0x00]]

theorem test_witness_RunIsTheMapOfSample :
    (∀ b ∈ programP4, b.length ≤ 8) ∧ programP4[0]? = some [0x01, 0x80, 0x80] ∧
    programP4[4]? = some [0x01, 0x80, 0x80, 0x80, 0x80, 0x0F, 0x00] := by decide

theorem test_witness_RunStopsAtALongRead :
    (∀ b ∈ ([[0x01], List.replicate 24 0] : List (List Byte)).take 1, b.length ≤ 8) ∧
    ([[0x01], List.replicate 24 0] : List (List Byte))[1]? = some (List.replicate 24 0) ∧
    8 < (List.replicate 24 (0#8)).length ∧
    (∀ b ∈ ([List.replicate 9 0] : List (List Byte)).take 0, b.length ≤ 8) ∧ 8 < (List.replicate 9 (0#8)).length := by
  decide

theorem test_witness_StepKeepsTheInvariant : Inv State.reset ∧ (∃ t, step State.reset = .next t) ∧ Inv twoPresented :=
  ⟨⟨rfl, by decide, rfl, (fun _ h => nomatch h), (fun h => nomatch h)⟩, ⟨_, rfl⟩,
    ⟨rfl, by decide, rfl, (fun _ h => nomatch h), (fun h => nomatch h)⟩⟩

theorem test_witness_InstructionsDoNotWriteTheFrame :
    (∃ t, exec (.sampleOk exampleFrameOtherEnds) twoPresented = .next t) ∧
    ∃ t, exec .remapSteerMid twoPresented = .next t :=
  ⟨⟨_, rfl⟩, _, rfl⟩

theorem test_witness_PortCodes :
    (dpadNibble 0xF000008080808001#64).toNat ∈ [0x0, 0x2, 0x4, 0x6] ∧
    (dpadNibble 0xF000068080808001#64).toNat ∈ [0x0, 0x2, 0x4, 0x6] ∧
    (faceCode (decodeFrame exampleFrame).face).getLsbD 0 = false ∧
    (shoulderCode (decodeFrame 0xF0A590FCFDFEFF01#64).shoulder).getLsbD 0 = true ∧
    (menuCode (decodeFrame 0xF0A590FCFDFEFF01#64).menu).getLsbD 3 = true := by decide

theorem test_witness_FrameNumbering :
    (bytesOfFrame exampleFrame)[0]? = some 0x01 ∧ (bytesOfFrame exampleFrame)[7]? = some 0xF0 ∧
    frameByte exampleFrame 0 = 0x01 ∧ frameByte exampleFrame 7 = 0xF0 := by decide

/-- The last byte of the frame, and the first address past it. -/
theorem test_witness_FrameAsAddressSpace :
    memRead twoPresented.frame 7 1 = .ok 0xF0 ∧ readByte twoPresented.frame 8 = .error (.noSuchByte 8) ∧
    Memory.wf twoPresented.frame = true ∧ Memory.ofFrame 0xF0000F0080FF8001#64 =
      [(0, 0x01), (1, 0x80), (2, 0xFF), (3, 0x80), (5, 0x0F), (7, 0xF0)] :=
  ⟨rfl, rfl, rfl, rfl⟩

theorem test_witness_InstancesShareNothing :
    (∃ sys', stepInstance [twoPresented, presented [0x01]] 1 = some sys') ∧
    stepInstance [State.reset] 1 = none :=
  ⟨⟨_, rfl⟩, rfl⟩

theorem test_witness_InstanceSchedulesCommute :
    [0, 1, 0].Perm [1, 0, 0] ∧ ∃ sys', runInstances [twoPresented, presented [0x01]] [0, 1, 0] = some sys' :=
  ⟨by decide, _, rfl⟩

end Sys2Proof.Machine.Tests
end

section
/-! The scope statements: how the frame is numbered (R7), and the frame as the block's one address space (R25). -/

namespace Sys2Proof

/-- R7's weights, byte by byte: the nested form in which `memRead` sums the bytes, multiplied out. -/
theorem toNat_eq_sum_bytes (f : Frame) :
    f.toNat =
      (frameByte f 0).toNat * 256 ^ 0 + (frameByte f 1).toNat * 256 ^ 1 + (frameByte f 2).toNat * 256 ^ 2 +
      (frameByte f 3).toNat * 256 ^ 3 + (frameByte f 4).toNat * 256 ^ 4 + (frameByte f 5).toNat * 256 ^ 5 +
      (frameByte f 6).toNat * 256 ^ 6 + (frameByte f 7).toNat * 256 ^ 7 := by
  have nested := Machine.toNat_eq_bytes f
  omega

/-- A byte that was delivered stands at its own index in the packed frame (R19, R27). -/
theorem frameByte_frameOfBytes_of_getElem? {bytes : List Byte} {k : Nat} {b : Byte} (hk : k < 8)
    (hb : bytes[k]? = some b) : frameByte (frameOfBytes bytes) k = b := by
  rw [frameByte_frameOfBytes bytes k hk, hb, Option.getD_some]

namespace Machine

/-- One byte of a frame that stands in memory, by `memRead` (R8, R25). -/
theorem memRead_ofFrame_one (f : Frame) {k : Nat} (hk : k < 8) :
    memRead (Memory.ofFrame f) k 1 = .ok (frameByte f k).toNat := by
  rw [memRead_one _ hk, Memory.peek_ofFrame f k hk]

/-- A whole frame that stands in memory, by `memRead`: little-endian (R8, R26). -/
theorem memRead_ofFrame_all (f : Frame) : memRead (Memory.ofFrame f) 0 8 = .ok f.toNat := by
  rw [memRead_frame, Memory.toFrame_ofFrame]

/-- The addresses that exist are exactly 0 to 7 (R25, R29). -/
theorem readByte_succeeds_iff (m : Memory) (a : Nat) : (∃ b, readByte m a = .ok b) ↔ a < 8 := by
  constructor
  · rintro ⟨b, hb⟩
    by_contra hge
    rw [readByte_of_ge m (Nat.le_of_not_lt hge)] at hb
    cases hb
  · intro hlt
    exact ⟨_, readByte_of_lt m hlt⟩

end Machine

/-- Settles O45, from the laws of bytes and bits: the bit law, the sum of the bytes, and the packing law. -/
theorem frameNumbering : Obligations.FrameNumbering := by
  unfold Obligations.FrameNumbering
  refine ⟨?bits, ?number, ?packing⟩
  case bits => exact fun f k j _ hj => (getLsbD_frameByte f k j hj).symm
  case number => exact toNat_eq_sum_bytes
  case packing => exact fun _ _ _ hk hb => frameByte_frameOfBytes_of_getElem? hk hb

/-- Settles O46: what is driven stands in memory as `Memory.ofFrame`, so the laws of that memory give the reads. -/
theorem frameAsAddressSpace : Obligations.FrameAsAddressSpace := by
  unfold Obligations.FrameAsAddressSpace
  refine ⟨?byte, ?whole, ?succeeds, ?noSuchByte⟩
  case byte => exact fun s p k hk => by rw [Machine.State.drive_frame, Machine.memRead_ofFrame_one p.frame hk]
  case whole => exact fun s p => by rw [Machine.State.drive_frame, Machine.memRead_ofFrame_all]
  case succeeds => exact Machine.readByte_succeeds_iff
  case noSuchByte => exact fun m _ ha => Machine.readByte_of_ge m ha

end Sys2Proof
end

section
/-! What one step hands back (10_state.md R15, R16): one law for each kind of step, read off `step_cases`; what a
presented reader result gives, by its number of bytes; and that nothing but the sample itself decides it. -/

namespace Sys2Proof

/-! ### What of a frame is decoded (R40, R44) -/

/-- A bit of a frame, by the byte it stands in (R7). -/
theorem frameBit_eq_getLsbD_frameByte (f : Frame) (i : Nat) :
    frameBit f i = (frameByte f (i / 8)).getLsbD (i % 8) := by
  rw [getLsbD_frameByte f _ _ (Nat.mod_lt i (by decide)), Nat.div_add_mod]

/-- The D-pad nibble is bits 40 to 43 (R40). -/
theorem getLsbD_dpadNibble (f : Frame) {i : Nat} (hi : i < 4) : (dpadNibble f).getLsbD i = frameBit f (40 + i) := by
  simp [dpadNibble, frameBit, hi]

/-- Bytes 0 and 7 have no part in `DECODE` (R44): every field is cut from one of the bytes 1 to 6. -/
theorem decodeFrame_congr {f g : Frame} (h : ∀ k, 1 ≤ k → k ≤ 6 → frameByte f k = frameByte g k) :
    decodeFrame f = decodeFrame g := by
  have hbit : ∀ i, 8 ≤ i → i ≤ 55 → frameBit f i = frameBit g i := fun i hlo hhi => by
    rw [frameBit_eq_getLsbD_frameByte, h (i / 8) (by omega) (by omega), ← frameBit_eq_getLsbD_frameByte]
  have hdpad : dpadNibble f = dpadNibble g := BitVec.eq_of_getLsbD_eq fun i hi => by
    rw [getLsbD_dpadNibble f hi, getLsbD_dpadNibble g hi, hbit (40 + i) (by omega) (by omega)]
  simp (disch := decide) only [decodeFrame, axisRYValue, axisRXValue, axisLXValue, axisLYValue, dpadValue, faceValue,
    shoulderValue, menuValue, h, hbit, hdpad]

namespace Machine

/-- Two frame memories whose bytes 1 to 6 read alike hold frames that decode alike (R44). -/
theorem decodeFrame_toFrame_congr {m m' : Memory} (h : ∀ k, 1 ≤ k → k ≤ 6 → readByte m k = readByte m' k) :
    decodeFrame (Memory.toFrame m) = decodeFrame (Memory.toFrame m') := by
  refine decodeFrame_congr fun k hlo hhi => ?_
  have hk : k < 8 := by omega
  have hread := h k hlo hhi
  rw [readByte_of_lt m hk, readByte_of_lt m' hk] at hread
  rw [Memory.frameByte_toFrame m k hk, Memory.frameByte_toFrame m' k hk, Except.ok.inj hread]

/-! ### One law for each kind of step (R108, R109, R122) -/

theorem step_of_nothing_presented {s : State} (hv : s.inValid = false) :
    step s = .next s.driveNothing.presentNext := by
  rcases step_cases s with ⟨_, hs⟩ | ⟨hv', _⟩ | ⟨hv', _⟩ | ⟨hv', _⟩
  · exact hs
  all_goals simp [hv] at hv'

theorem step_of_full_read {s : State} (hv : s.inValid = true) (hl : s.len.toNat = 8) :
    step s = .next (sampledState s (Memory.toFrame s.frame)).presentNext := by
  rcases step_cases s with ⟨hv', _⟩ | ⟨_, _, hs⟩ | ⟨_, hl', _⟩ | ⟨_, hl', _⟩
  · simp [hv] at hv'
  · exact hs
  all_goals omega

theorem step_of_short_read {s : State} (hv : s.inValid = true) (hl : s.len.toNat < 8) :
    step s = .next (s.raiseIncompleteFrame s.len).presentNext := by
  rcases step_cases s with ⟨hv', _⟩ | ⟨_, hl', _⟩ | ⟨_, _, hs⟩ | ⟨_, hl', _⟩
  · simp [hv] at hv'
  · omega
  · exact hs
  · omega

theorem step_of_long_read {s : State} (hv : s.inValid = true) (hl : 8 < s.len.toNat) :
    step s = .refused (.overlongRead s.len) := by
  rcases step_cases s with ⟨hv', _⟩ | ⟨_, hl', _⟩ | ⟨_, hl', _⟩ | ⟨_, _, hs⟩
  · simp [hv] at hv'
  · omega
  · omega
  · exact hs

/-! ### A reader result on the input ports (R16, R19) -/

@[simp] theorem PortIn.ofReader_inValid (bytes : List Byte) : (PortIn.ofReader bytes).inValid = true := rfl
@[simp] theorem PortIn.ofReader_len (bytes : List Byte) : (PortIn.ofReader bytes).len = lenCode bytes.length := rfl
@[simp] theorem PortIn.ofReader_frame (bytes : List Byte) : (PortIn.ofReader bytes).frame = frameOfBytes bytes := rfl

/-! ### `SAMPLE` by the number of bytes (R105, R121, R122) -/

theorem sample_of_short {bytes : List Byte} (h : bytes.length < 8) :
    sample bytes = .incompleteFrame bytes.length := by
  simp [sample, h]

theorem sample_of_full {bytes : List Byte} (h : bytes.length = 8) :
    sample bytes = .decoded (decodeFrame (frameOfBytes bytes)) (actuate (decodeFrame (frameOfBytes bytes))) := by
  simp [sample, h]

theorem sample_of_long {bytes : List Byte} (h : 8 < bytes.length) : sample bytes = .refused := by
  simp [sample, h, Nat.not_lt.2 h.le]

/-- A reader result of at most 8 bytes: the step completes with the outcome `SAMPLE` gives, and the environment's
schedule is what it was when its next input is driven. -/
theorem step_drive_ofReader (s : State) {bytes : List Byte} (h : bytes.length ≤ 8) :
    ∃ t : State, step (s.drive (PortIn.ofReader bytes)) = .next t.presentNext ∧
      t.outcome = some (sample bytes) ∧ t.upcoming = s.upcoming := by
  have hlen : (lenCode bytes.length).toNat = bytes.length := by rw [toNat_lenCode]; omega
  rcases Nat.lt_or_eq_of_le h with hshort | hfull
  · refine ⟨_, step_of_short_read rfl (hlen.trans_lt hshort), ?_, rfl⟩
    rw [raiseIncompleteFrame_outcome, sample_of_short hshort, State.drive_len, PortIn.ofReader_len, hlen]
  · refine ⟨_, step_of_full_read rfl (hlen.trans hfull), ?_, rfl⟩
    rw [sampledState_outcome, sample_of_full hfull, State.drive_frame, PortIn.ofReader_frame,
      Memory.toFrame_ofFrame]

/-- A reader result of more than 8 bytes: the step is refused with the `len` that stands for it (R122, log 11). -/
theorem step_drive_ofReader_of_long (s : State) {bytes : List Byte} (h : 8 < bytes.length) :
    step (s.drive (PortIn.ofReader bytes)) = .refused (.overlongRead (lenCode bytes.length)) :=
  step_of_long_read rfl (by rw [State.drive_len, PortIn.ofReader_len, toNat_lenCode]; omega)

/-- The step on a reader result of at most 8 bytes as its caller sees it, the next input already driven. -/
theorem step_drive_ofReader_outcome (s : State) {bytes : List Byte} (h : bytes.length ≤ 8) :
    ∃ t, step (s.drive (PortIn.ofReader bytes)) = .next t ∧ t.outcome = some (sample bytes) := by
  obtain ⟨t, hstep, hout, _⟩ := step_drive_ofReader s h
  exact ⟨t.presentNext, hstep, by rw [State.presentNext_outcome, hout]⟩

/-! ### Two results of a step that the caller cannot tell apart -/

/-- The second result completes with the outcome and strobes of the first where that completes, and is refused in the
same way where that is refused. -/
def HandsBackTheSame (r r' : Result) : Prop :=
  (∀ t, r = .next t → ∃ t', r' = .next t' ∧ t'.outcome = t.outcome ∧
    t'.outValid = t.outValid ∧ t'.errIncomplete = t.errIncomplete) ∧
  (∀ ρ, r = .refused ρ → r' = .refused ρ)

/-- What the environment drives after the two steps does not matter. -/
theorem handsBackTheSame_presentNext {t t' : State} (hout : t'.outcome = t.outcome)
    (hvalid : t'.outValid = t.outValid) (herr : t'.errIncomplete = t.errIncomplete) :
    HandsBackTheSame (.next t.presentNext) (.next t'.presentNext) := by
  constructor
  · rintro _ ⟨⟩
    exact ⟨_, rfl, by simpa using hout, by simpa using hvalid, by simpa using herr⟩
  · rintro _ ⟨⟩

theorem handsBackTheSame_refused (ρ : Refusal) : HandsBackTheSame (.refused ρ) (.refused ρ) :=
  ⟨fun _ h => (nomatch h), fun _ h => h⟩

/-- The step of a state and of another that agrees with it on the sample: `in_valid`, `len` where a reader result is
presented, and bytes 1 to 6 of a full read. The second state's step is of the same kind as the first's. -/
theorem step_handsBackTheSame {s s' : State} (hv : s.inValid = s'.inValid)
    (hlen : s.inValid = true → s.len = s'.len)
    (hbytes : s.inValid = true → s.len.toNat = 8 →
      ∀ k, 1 ≤ k → k ≤ 6 → readByte s.frame k = readByte s'.frame k) :
    HandsBackTheSame (step s) (step s') := by
  rcases step_cases s with ⟨h, hs⟩ | ⟨h, hl, hs⟩ | ⟨h, hl, hs⟩ | ⟨h, hl, hs⟩
  · rw [hs, step_of_nothing_presented (hv ▸ h)]
    refine handsBackTheSame_presentNext ?_ rfl rfl
    rw [driveNothing_outcome, driveNothing_outcome]
  · rw [hs, step_of_full_read (hv ▸ h) (hlen h ▸ hl)]
    refine handsBackTheSame_presentNext ?_ rfl rfl
    rw [sampledState_outcome, sampledState_outcome, decodeFrame_toFrame_congr (hbytes h hl)]
  · rw [hs, step_of_short_read (hv ▸ h) (hlen h ▸ hl)]
    refine handsBackTheSame_presentNext ?_ rfl rfl
    rw [raiseIncompleteFrame_outcome, raiseIncompleteFrame_outcome, hlen h]
  · rw [hs, step_of_long_read (hv ▸ h) (hlen h ▸ hl), hlen h]
    exact handsBackTheSame_refused _

end Machine

/-- Settles O33: up to 8 bytes the step hands back what `SAMPLE` gives, and above 8 bytes both refuse. -/
theorem sampleOfAReaderResult : Obligations.SampleOfAReaderResult := by
  unfold Obligations.SampleOfAReaderResult
  refine fun s bytes => ⟨fun hshort => ?short, fun hfull => ?full, fun hlong => ?long⟩
  case short => exact Machine.sample_of_short hshort ▸ Machine.step_drive_ofReader_outcome s hshort.le
  case full => exact Machine.sample_of_full hfull ▸ Machine.step_drive_ofReader_outcome s hfull.le
  case long => exact ⟨Machine.sample_of_long hlong, Machine.step_drive_ofReader_of_long s hlong⟩

/-- Settles O39: the two steps are of one kind, and each kind hands back a function of the sample. -/
theorem outcomeDependsOnTheSampleAlone : Obligations.OutcomeDependsOnTheSampleAlone := by
  unfold Obligations.OutcomeDependsOnTheSampleAlone
  exact fun _ _ hv hlen hbytes => Machine.step_handsBackTheSame hv hlen hbytes

end Sys2Proof
end

section
/-! Runs (10_state.md R16, 42_sample_step.md R113): a run goes on by one reader result a step, up to the first one of
more than 8 bytes. -/

namespace Sys2Proof
namespace Machine

/-- A run places its first reader result on the ports and schedules the rest. -/
theorem State.withRun_cons (s : State) (b : List Byte) (bs : List (List Byte)) :
    s.withRun (b :: bs) = State.drive { s with upcoming := bs.map PortIn.ofReader } (PortIn.ofReader b) := rfl

/-- When the schedule holds reader results, the environment's next input is the start of the run of those. -/
theorem State.presentNext_eq_withRun {s : State} {bs : List (List Byte)} (h : s.upcoming = bs.map PortIn.ofReader) :
    s.presentNext = s.withRun bs := by
  cases bs with
  | nil =>
    have hempty : s.upcoming = [] := h
    simp [State.presentNext, State.withRun, State.drive, hempty]
  | cons b bs =>
    have hcons : s.upcoming = PortIn.ofReader b :: bs.map PortIn.ofReader := h
    simp [State.presentNext, State.withRun, hcons]

/-- A run whose first reader result has at most 8 bytes: one step hands back `SAMPLE` of that one and stands at the
start of the run of the others. -/
theorem step_withRun_cons (s : State) {b : List Byte} (bs : List (List Byte)) (h : b.length ≤ 8) :
    ∃ t : State, step (s.withRun (b :: bs)) = .next (t.withRun bs) ∧ (t.withRun bs).outcome = some (sample b) := by
  rw [State.withRun_cons]
  obtain ⟨t, hstep, hout, hup⟩ := step_drive_ofReader { s with upcoming := bs.map PortIn.ofReader } h
  rw [← State.presentNext_outcome, State.presentNext_eq_withRun hup] at hout
  exact ⟨t, State.presentNext_eq_withRun hup ▸ hstep, hout⟩

/-- A run whose first reader result has more than 8 bytes is refused at once. -/
theorem step_withRun_cons_of_long (s : State) {b : List Byte} (bs : List (List Byte)) (h : 8 < b.length) :
    step (s.withRun (b :: bs)) = .refused (.overlongRead (lenCode b.length)) := by
  rw [State.withRun_cons, step_drive_ofReader_of_long _ h]

/-- A run is refused at its first reader result of more than 8 bytes: by induction on the run, each shorter result
before it costing one step. -/
theorem run_refused_at_long_read (s : State) (run : List (List Byte)) (k : Nat) (bytes : List Byte)
    (hshort : ∀ b ∈ run.take k, b.length ≤ 8) (hk : run[k]? = some bytes) (hlong : 8 < bytes.length) :
    Host.Core.run Sys2Proof.core (k + 1) (s.withRun run) = .refused (.overlongRead (lenCode bytes.length)) := by
  induction run generalizing s k with
  | nil => simp at hk
  | cons b bs ih =>
    cases k with
    | zero =>
      obtain rfl : b = bytes := by simpa using hk
      exact core_run_refused 0 _ _ (step_withRun_cons_of_long s bs hlong)
    | succ k =>
      rw [List.take_succ_cons, List.forall_mem_cons] at hshort
      obtain ⟨hb, hbs⟩ := hshort
      obtain ⟨t, hstep, _⟩ := step_withRun_cons s bs hb
      exact (core_run_next (k + 1) _ _ hstep).trans (ih t k hbs (by simpa using hk))

end Machine

/-- Settles O49, by `run_refused_at_long_read`; the refusal's length is `lenCode` written out. -/
theorem runStopsAtALongRead : Obligations.RunStopsAtALongRead := by
  unfold Obligations.RunStopsAtALongRead
  exact Machine.run_refused_at_long_read

end Sys2Proof
end

section
/-! Reset (10_state.md R21, 70_reset_and_hazards.md R140). -/

namespace Sys2Proof
namespace Machine

@[simp] theorem State.reset_inValid : State.reset.inValid = false := rfl
@[simp] theorem State.reset_outValid : State.reset.outValid = false := rfl
@[simp] theorem State.reset_errIncomplete : State.reset.errIncomplete = false := rfl
@[simp] theorem State.reset_incompleteLen : State.reset.incompleteLen = none := rfl

/-- No result stands on the ports and no length is recorded, so there is no outcome (R21). -/
theorem State.reset_outcome : State.reset.outcome = none := by
  simp [State.outcome, State.controlState?_eq_none State.reset_outValid]

/-- The base case of the invariant: the empty memory is canonical, and with both strobes down the other clauses ask
nothing. -/
theorem inv_reset : Inv State.reset where
  frameCanonical := rfl
  strobesExclusive := by simp
  lengthWithError := rfl
  lengthShort := by simp
  resultPorts := by simp [resultPortsLegal]

end Machine

/-- Settles O42, from the fields of the reset state and the base case of the invariant. -/
theorem resetState : Obligations.ResetState := by
  unfold Obligations.ResetState
  exact ⟨Machine.State.reset_inValid, Machine.State.reset_outValid, Machine.State.reset_errIncomplete,
    Machine.State.reset_outcome, Machine.inv_reset⟩

end Sys2Proof
end

section
/-! Several blocks side by side (10_state.md R23, 60_exceptions.md R135): one of them steps by itself, so steps of two
different ones commute. -/

namespace Sys2Proof
namespace Machine

/-- Everything a step of one block of a system is: that block's own step, put back in its place. -/
theorem stepInstance_eq_some_iff {sys sys' : List State} {k : Nat} :
    stepInstance sys k = some sys' ↔ ∃ s t, sys[k]? = some s ∧ step s = .next t ∧ sys.set k t = sys' := by
  unfold stepInstance
  cases hget : sys[k]? with
  | none => simp
  | some s => cases hstep : step s <;> simp [hstep]

/-- Two steps of different blocks can be taken in the other order, with the same system at the end. -/
theorem stepInstance_swap {sys mid sys' : List State} {i j : Nat} (hij : i ≠ j)
    (hi : stepInstance sys i = some mid) (hj : stepInstance mid j = some sys') :
    ∃ mid', stepInstance sys j = some mid' ∧ stepInstance mid' i = some sys' := by
  obtain ⟨s, t, hs, hstep, rfl⟩ := stepInstance_eq_some_iff.1 hi
  obtain ⟨s', t', hs', hstep', rfl⟩ := stepInstance_eq_some_iff.1 hj
  rw [List.getElem?_set_ne hij] at hs'
  have hs_kept : (sys.set j t')[i]? = some s := by rw [List.getElem?_set_ne hij.symm, hs]
  exact ⟨sys.set j t', stepInstance_eq_some_iff.2 ⟨s', t', hs', hstep', rfl⟩,
    stepInstance_eq_some_iff.2 ⟨s, t, hs_kept, hstep, List.set_comm t' t hij.symm⟩⟩

/-- Two steps give the same system in either order, or stop in both. -/
theorem stepInstance_comm (sys : List State) (i j : Nat) :
    (stepInstance sys i).bind (stepInstance · j) = (stepInstance sys j).bind (stepInstance · i) := by
  by_cases hij : i = j
  · rw [hij]
  · ext sys'
    simp only [Option.bind_eq_some_iff]
    exact ⟨fun ⟨_, hi, hj⟩ => stepInstance_swap hij hi hj, fun ⟨_, hj, hi⟩ => stepInstance_swap (Ne.symm hij) hj hi⟩

theorem runInstances_cons (sys : List State) (k : Nat) (ks : List Nat) :
    runInstances sys (k :: ks) = (stepInstance sys k).bind (runInstances · ks) := by
  cases h : stepInstance sys k <;> simp [runInstances, h]

/-- The first two steps of an order, as one. -/
theorem runInstances_cons_cons (sys : List State) (i j : Nat) (ks : List Nat) :
    runInstances sys (i :: j :: ks) =
      ((stepInstance sys i).bind (stepInstance · j)).bind (runInstances · ks) := by
  simp only [runInstances_cons, Option.bind_assoc]

/-- The order of the steps does not matter: a permutation is made of swaps of neighbours. -/
theorem runInstances_perm {order order' : List Nat} (h : order.Perm order') (sys : List State) :
    runInstances sys order = runInstances sys order' := by
  induction h generalizing sys with
  | nil => rfl
  | cons k _ ih => simp only [runInstances_cons, ih]
  | swap i j ks => rw [runInstances_cons_cons, stepInstance_comm, ← runInstances_cons_cons]
  | trans _ _ ih₁ ih₂ => exact (ih₁ sys).trans (ih₂ sys)

end Machine

/-- Settles O47: the step is the own step of one block put back in its place, and a list update there leaves the
length and every other place. -/
theorem instancesShareNothing : Obligations.InstancesShareNothing := by
  unfold Obligations.InstancesShareNothing
  intro sys sys' k h
  obtain ⟨s, t, hget, hstep, rfl⟩ := Machine.stepInstance_eq_some_iff.1 h
  obtain ⟨hk, _⟩ := List.getElem?_eq_some_iff.1 hget
  exact ⟨List.length_set, ⟨s, t, hget, hstep, List.getElem?_set_self hk⟩,
    fun _ hj => List.getElem?_set_ne hj.symm⟩

/-- Settles O48, by induction on the permutation: `runInstances_perm`. -/
theorem instanceSchedulesCommute : Obligations.InstanceSchedulesCommute := by
  unfold Obligations.InstanceSchedulesCommute
  exact fun sys _ _ h => Machine.runInstances_perm h sys

end Sys2Proof
end

section
/-! The frame as an instruction finds it (20_memory.md R28, R29): no instruction writes an input, no step fails on a
read, and the one stop is the long read (60_exceptions.md R122, R125). -/

namespace Sys2Proof
namespace Machine

/-! ### What a step stops on -/

/-- R29, R125: a step reads bytes 0 to 7 alone, so no fault arises. -/
theorem step_ne_fault (s : State) (φ : Fault) : step s ≠ .fault φ := by
  rcases step_cases s with ⟨_, hs⟩ | ⟨_, _, hs⟩ | ⟨_, _, hs⟩ | ⟨_, _, hs⟩
  all_goals rw [hs]; nofun

theorem step_eq_refused_iff (s : State) (ρ : Refusal) :
    step s = .refused ρ ↔ s.inValid = true ∧ 8 < s.len.toNat ∧ ρ = .overlongRead s.len := by
  constructor
  · intro h
    rcases step_cases s with ⟨_, hs⟩ | ⟨_, _, hs⟩ | ⟨_, _, hs⟩ | ⟨hv, hl, hs⟩
    all_goals rw [hs] at h; cases h
    exact ⟨hv, hl, rfl⟩
  · rintro ⟨hv, hl, rfl⟩
    exact step_of_long_read hv hl

/-! ### What an instruction can do -/

/-- Everything an instruction can do: a `SAMPLE` row delivers, raises the error or is refused, and each other row writes
its own result, on the data ports or in one of the two results that no port carries (R60, R85). -/
theorem exec_cases (i : Instr) (s : State) :
    (∃ d, exec i s = .next (s.setData d)) ∨
    (∃ v, exec i s = .next (s.setSide v)) ∨
    (∃ v, exec i s = .next (s.setMagnitude v)) ∨
    (∃ f, i = .sampleOk f ∧ exec i s = .next (sampledState s f)) ∨
    (∃ n, i = .sampleIncomplete n ∧ exec i s = .next (s.raiseIncompleteFrame n)) ∨
    (∃ n, i = .sampleRefused n ∧ exec i s = .refused (.overlongRead n)) := by
  cases i with
  | remapSideLow | remapSideMid | remapSideHigh => exact .inr (.inl ⟨_, rfl⟩)
  | remapMagLow | remapMagMid | remapMagHigh => exact .inr (.inr (.inl ⟨_, rfl⟩))
  | sampleOk f => exact .inr (.inr (.inr (.inl ⟨f, rfl, rfl⟩)))
  | sampleIncomplete n => exact .inr (.inr (.inr (.inr (.inl ⟨n, rfl, rfl⟩))))
  | sampleRefused n => exact .inr (.inr (.inr (.inr (.inr ⟨n, rfl, rfl⟩))))
  | _ => exact .inl ⟨_, rfl⟩

/-! ### The input side: the frame, `in_valid`, `len`, and the schedule of log 1 -/

/-- The second state has the input side of the first. -/
structure SameInputs (s t : State) : Prop where
  frame : t.frame = s.frame
  inValid : t.inValid = s.inValid
  len : t.len = s.len
  upcoming : t.upcoming = s.upcoming

theorem setData_sameInputs (s : State) (d : DataPorts) : SameInputs s (s.setData d) := ⟨rfl, rfl, rfl, rfl⟩
theorem setSide_sameInputs (s : State) (v : Side) : SameInputs s (s.setSide v) := ⟨rfl, rfl, rfl, rfl⟩
theorem setMagnitude_sameInputs (s : State) (v : Byte) : SameInputs s (s.setMagnitude v) := ⟨rfl, rfl, rfl, rfl⟩
theorem sampledState_sameInputs (s : State) (f : Frame) : SameInputs s (sampledState s f) := ⟨rfl, rfl, rfl, rfl⟩
theorem raiseIncompleteFrame_sameInputs (s : State) (n : Len) : SameInputs s (s.raiseIncompleteFrame n) :=
  ⟨rfl, rfl, rfl, rfl⟩

/-- R28: an instruction that completes is one of five writes, and each of them is to the output side. -/
theorem exec_sameInputs {i : Instr} {s t : State} (h : exec i s = .next t) : SameInputs s t := by
  rcases exec_cases i s with ⟨d, he⟩ | ⟨v, he⟩ | ⟨v, he⟩ | ⟨f, _, he⟩ | ⟨n, _, he⟩ | ⟨n, _, he⟩
  all_goals rw [he] at h; cases h
  · exact setData_sameInputs s d
  · exact setSide_sameInputs s v
  · exact setMagnitude_sameInputs s v
  · exact sampledState_sameInputs s f
  · exact raiseIncompleteFrame_sameInputs s n

end Machine

/-- Settles O38, from the four kinds of step: three complete, and the fourth is the refusal of a long read. -/
theorem stepStopsOnlyOnALongRead : Obligations.StepStopsOnlyOnALongRead := by
  unfold Obligations.StepStopsOnlyOnALongRead
  exact fun s => ⟨Machine.step_ne_fault s, Machine.step_eq_refused_iff s⟩

/-- Settles O43: the frame memory itself is unchanged, so every address reads as before. -/
theorem instructionsDoNotWriteTheFrame : Obligations.InstructionsDoNotWriteTheFrame := by
  unfold Obligations.InstructionsDoNotWriteTheFrame
  intro i s t h
  obtain ⟨hframe, hvalid, hlen, hupcoming⟩ := Machine.exec_sameInputs h
  exact ⟨fun a => by rw [hframe], hvalid, hlen, hupcoming⟩

end Sys2Proof
end

section
/-! A `ControlState` in a frame and on the ports (30_encoding.md R40 to R43, R48, R49). The D-pad nibble and the three
button fields are four-bit slices of the frame; the encoder writes each of them as one half of byte 5 or byte 6. -/

namespace Sys2Proof

/-! ### The D-pad value table (R42) -/

/-- The table gives every value back from the code the encoder writes for it. -/
theorem dpadOfNibble_nibbleOfDpad (d : Dpad) : dpadOfNibble (nibbleOfDpad d) = d := by cases d <;> rfl

theorem dpadOfNibble_eq_idle {n : Nibble} (h : n.toNat ∉ [0x0, 0x2, 0x4, 0x6]) : dpadOfNibble n = .idle := by
  revert n; decide

/-! ### Slices of the frame (R7) -/

/-- A slice of a byte is the slice of the frame at that place. -/
theorem extractLsb'_frameByte (f : Frame) (k start len : Nat) (h : start + len ≤ 8) :
    (frameByte f k).extractLsb' start len = f.extractLsb' (8 * k + start) len := by
  apply BitVec.eq_of_getLsbD_eq
  intro i hi
  have hbyte : start + i < 8 := by omega
  simp [frameByte, hi, hbyte, Nat.add_assoc]

/-- A line of a four-bit slice is a bit of the frame. -/
theorem getLsbD_extractLsb'_eq_frameBit (f : Frame) (k : Nat) {i : Nat} (hi : i < 4) :
    (f.extractLsb' k 4).getLsbD i = frameBit f (k + i) := by
  simp [frameBit, hi]

theorem bit_frameBit (f : Frame) (k : Nat) : bit (frameBit f k) = f.extractLsb' k 1 := by
  apply BitVec.eq_of_getLsbD_eq
  intro i hi
  obtain rfl : i = 0 := by omega
  simp [bit, frameBit]

/-- Four neighbouring bits of a frame, put together, are that slice of it. -/
theorem bits_eq_extractLsb' (f : Frame) (k : Nat) :
    bit (frameBit f (k + 3)) ++ bit (frameBit f (k + 2)) ++ bit (frameBit f (k + 1)) ++ bit (frameBit f k) =
      f.extractLsb' k 4 := by
  simp only [bit_frameBit]
  rw [BitVec.extractLsb'_append_extractLsb'_eq_extractLsb' (by omega),
    BitVec.extractLsb'_append_extractLsb'_eq_extractLsb' (by omega),
    BitVec.extractLsb'_append_extractLsb'_eq_extractLsb' (by omega)]

namespace Machine

/-! ### The codes of the ports (R48, R49) -/

theorem dpadCode_toNat_le (d : Dpad) : (dpadCode d).toNat ≤ 4 := by cases d <;> decide
theorem steerCode_toNat_le (d : SteerDir) : (steerCode d).toNat ≤ 2 := by cases d <;> decide

/-- The code of a direction nibble is its bits 2:1. -/
theorem dpadCode_dpadOfNibble {n : Nibble} (h : n.toNat ∈ [0x0, 0x2, 0x4, 0x6]) :
    dpadCode (dpadOfNibble n) = (n.extractLsb' 1 2).setWidth 3 := by
  revert n; decide

theorem faceCode_faceValue (f : Frame) : faceCode (faceValue f) = f.extractLsb' 44 4 := bits_eq_extractLsb' f 44
theorem shoulderCode_shoulderValue (f : Frame) : shoulderCode (shoulderValue f) = f.extractLsb' 48 4 :=
  bits_eq_extractLsb' f 48
theorem menuCode_menuValue (f : Frame) : menuCode (menuValue f) = f.extractLsb' 52 4 := bits_eq_extractLsb' f 52

end Machine

/-! ### The bytes the encoder writes, read back (R40, log 9) -/

theorem byte5_eq_append (d : Dpad) (b : FaceButtons) : byte5 d b = Machine.faceCode b ++ nibbleOfDpad d := rfl

theorem byte6_eq_append (b : ShoulderButtons) (m : MenuButtons) :
    byte6 b m = Machine.menuCode m ++ Machine.shoulderCode b := by
  obtain ⟨l1, l2, r1, r2⟩ := b
  obtain ⟨select, start, leftStickClick, rightStickClick⟩ := m
  revert l1 l2 r1 r2 select start leftStickClick rightStickClick
  decide

/-- The eight bytes of the frame written for a `ControlState`. -/
theorem frameByte_encodeFrame (cs : ControlState) {k : Nat} (hk : k < 8) :
    frameByte (encodeFrame cs) k =
      ([0, cs.rightStickY, cs.rightStickX, cs.leftStickX, cs.leftStickY,
        byte5 cs.dpad cs.face, byte6 cs.shoulder cs.menu, 0][k]?).getD 0 :=
  frameByte_frameOfBytes _ k hk

theorem frameByte_encodeFrame_five (cs : ControlState) :
    frameByte (encodeFrame cs) 5 = Machine.faceCode cs.face ++ nibbleOfDpad cs.dpad :=
  (frameByte_encodeFrame cs (by decide)).trans (byte5_eq_append cs.dpad cs.face)

theorem frameByte_encodeFrame_six (cs : ControlState) :
    frameByte (encodeFrame cs) 6 = Machine.menuCode cs.menu ++ Machine.shoulderCode cs.shoulder :=
  (frameByte_encodeFrame cs (by decide)).trans (byte6_eq_append cs.shoulder cs.menu)

theorem dpadNibble_encodeFrame (cs : ControlState) : dpadNibble (encodeFrame cs) = nibbleOfDpad cs.dpad := by
  rw [dpadNibble, ← extractLsb'_frameByte _ 5 0 4 (by decide), frameByte_encodeFrame_five,
    BitVec.extractLsb'_append_eq_right]

theorem faceValue_encodeFrame (cs : ControlState) : faceValue (encodeFrame cs) = cs.face := by
  rw [← Machine.faceOfCode_faceCode (faceValue _), Machine.faceCode_faceValue,
    ← extractLsb'_frameByte _ 5 4 4 (by decide), frameByte_encodeFrame_five, BitVec.extractLsb'_append_eq_left,
    Machine.faceOfCode_faceCode]

theorem shoulderValue_encodeFrame (cs : ControlState) : shoulderValue (encodeFrame cs) = cs.shoulder := by
  rw [← Machine.shoulderOfCode_shoulderCode (shoulderValue _), Machine.shoulderCode_shoulderValue,
    ← extractLsb'_frameByte _ 6 0 4 (by decide), frameByte_encodeFrame_six, BitVec.extractLsb'_append_eq_right,
    Machine.shoulderOfCode_shoulderCode]

theorem menuValue_encodeFrame (cs : ControlState) : menuValue (encodeFrame cs) = cs.menu := by
  rw [← Machine.menuOfCode_menuCode (menuValue _), Machine.menuCode_menuValue,
    ← extractLsb'_frameByte _ 6 4 4 (by decide), frameByte_encodeFrame_six, BitVec.extractLsb'_append_eq_left,
    Machine.menuOfCode_menuCode]

/-- Settles O4, field by field: the axes are whole bytes of the frame written, and each other field is a half of byte 5
or byte 6. -/
theorem decodeOfEncodedControlState : Obligations.DecodeOfEncodedControlState := by
  unfold Obligations.DecodeOfEncodedControlState
  intro cs
  have haxis (k : Nat) (hk : k < 8) := frameByte_encodeFrame cs hk
  have hdpad : dpadValue (encodeFrame cs) = cs.dpad := by
    rw [dpadValue, dpadNibble_encodeFrame, dpadOfNibble_nibbleOfDpad]
  simp [decodeFrame, axisRYValue, axisRXValue, axisLXValue, axisLYValue, haxis 1, haxis 2, haxis 3, haxis 4, hdpad,
    faceValue_encodeFrame, shoulderValue_encodeFrame, menuValue_encodeFrame]

/-- Settles O15: the axis ports take bytes 1 to 4, which are slices by definition, and each button port is a slice. -/
theorem decodeInstructionPutsTheSlices : Obligations.DecodeInstructionPutsTheSlices := by
  unfold Obligations.DecodeInstructionPutsTheSlices
  intro f s
  rw [← Machine.faceCode_faceValue, ← Machine.shoulderCode_shoulderValue, ← Machine.menuCode_menuValue]
  rfl

/-- Settles O10: each row writes the code of its own table value (R42, R48). -/
theorem dpadRowsGiveTheirTableValue : Obligations.DpadRowsGiveTheirTableValue := by
  unfold Obligations.DpadRowsGiveTheirTableValue
  exact fun _ _ => ⟨rfl, rfl, rfl, rfl, rfl, rfl, rfl, rfl, rfl, rfl, rfl, rfl, rfl, rfl, rfl, rfl⟩

/-- Settles O44, from the value table, the codes, and the button ports as slices of the frame. -/
theorem portCodes : Obligations.PortCodes := by
  unfold Obligations.PortCodes
  refine ⟨?dpadReadBack, ?dpadTable, ?dpadBits, ?thrustTable, ?steerTable, ?steerUnused, ?buttonLines⟩
  case dpadReadBack => exact fun d => ⟨Machine.dpadCode_toNat_le d, Machine.dpadOfCode_dpadCode d⟩
  case dpadTable => exact ⟨rfl, rfl, rfl, rfl, rfl⟩
  case dpadBits => exact fun _ h => Machine.dpadCode_dpadOfNibble h
  case thrustTable => exact ⟨rfl, rfl⟩
  case steerTable => exact ⟨rfl, rfl, rfl⟩
  case steerUnused => exact fun d h => absurd (h ▸ Machine.steerCode_toNat_le d) (by decide)
  case buttonLines =>
    intro f i hi
    simp only [decodeFrame, Machine.faceCode_faceValue, Machine.shoulderCode_shoulderValue,
      Machine.menuCode_menuValue, getLsbD_extractLsb'_eq_frameBit f _ hi, and_self]

end Sys2Proof
end

section
/-! The decoder of the table's rows (30_encoding.md R53): on which values an operation's decoder answers, and that its
answer is the row which wins on the value. -/

namespace Sys2Proof

/-! ### A row's test -/

/-- The test of a row on a word is a test on the word's bits (R53). -/
theorem applies_toNat_iff {w : Nat} (fmt : Format) (mask pattern v : BitVec w) (prio : Nat) :
    (TableRow.mk fmt mask.toNat pattern.toNat prio).applies v.toNat = true ↔ v &&& mask = pattern := by
  simp [TableRow.applies, ← BitVec.toNat_and, ← BitVec.toNat_inj]

/-- A row with an empty mask applies to every value. -/
theorem applies_of_mask_zero (fmt : Format) (prio v : Nat) : (TableRow.mk fmt 0 0 prio).applies v = true := by
  simp [TableRow.applies]

theorem wins_iff {r : TableRow} {op : Operation} {v : Nat} :
    r.wins op v = true ↔
      r.applies v = true ∧ ∀ q ∈ rowsOf op, q.applies v = true → r.priority ≤ q.priority := by
  simp [TableRow.wins, or_iff_not_imp_left]

/-- No priority number is below 0, so an applying row with that number wins. -/
theorem wins_of_priority_zero {r : TableRow} {op : Operation} {v : Nat} (hprio : r.priority = 0)
    (happ : r.applies v = true) : r.wins op v = true :=
  wins_iff.2 ⟨happ, fun _ _ _ => hprio ▸ Nat.zero_le _⟩

/-- Every instruction's row stands in the group of its operation. -/
theorem tableRow_mem_rowsOf (i : Instr) : tableRow i ∈ rowsOf (opOf i) := by
  cases i <;> exact List.contains_iff_mem.1 rfl

/-! ### The `DPAD` rows (R42): one for each nibble -/

/-- The D-pad field of a frame in its place, every other bit 0 (R40). -/
def dpadField (n : Nibble) : Frame := n.setWidth 64 <<< 40

/-- Masking a frame to the D-pad field keeps its nibble. -/
theorem and_dpadMask (f : Frame) : f &&& dpadField 15#4 = dpadField (dpadNibble f) := by
  apply BitVec.eq_of_getLsbD_eq
  intro i hi
  have hones (j : Nat) : (15#4).getLsbD j = decide (j < 4) := BitVec.getLsbD_allOnes (v := 4)
  simp only [dpadField, BitVec.getLsbD_and, BitVec.getLsbD_shiftLeft, BitVec.getLsbD_setWidth, hones]
  by_cases hlo : i < 40
  · simp [hlo]
  · by_cases hnib : i - 40 < 4
    · rw [getLsbD_dpadNibble f hnib, frameBit, show 40 + (i - 40) = i by omega]
      simp [hi, hlo, hnib, show i - 40 < 64 by omega]
    · simp [hnib, BitVec.getLsbD_of_ge (dpadNibble f) (i - 40) (Nat.le_of_not_lt hnib)]

theorem dpadField_injective : Function.Injective dpadField := by
  unfold Function.Injective; decide

/-- The table's test of a `DPAD` row is a test of the nibble. -/
theorem and_dpadMask_eq_iff (f : Frame) (n : Nibble) : f &&& dpadField 15#4 = dpadField n ↔ dpadNibble f = n := by
  rw [and_dpadMask, dpadField_injective.eq_iff]

/-- The `DPAD` row of a nibble, whatever the frame it carries. -/
def dpadRowOf (n : Nibble) (f : Frame) : Instr :=
  match n.toNat with
  | 0 => .dpadN0 f
  | 1 => .dpadN1 f
  | 2 => .dpadN2 f
  | 3 => .dpadN3 f
  | 4 => .dpadN4 f
  | 5 => .dpadN5 f
  | 6 => .dpadN6 f
  | 7 => .dpadN7 f
  | 8 => .dpadN8 f
  | 9 => .dpadN9 f
  | 10 => .dpadNA f
  | 11 => .dpadNB f
  | 12 => .dpadNC f
  | 13 => .dpadND f
  | 14 => .dpadNE f
  | _ => .dpadNF f

theorem dpadRow_eq (f : Frame) : dpadRow f = dpadRowOf (dpadNibble f) f := by
  unfold dpadRow dpadRowOf
  rfl

theorem nibble_cases (n : Nibble) :
    n = 0 ∨ n = 1 ∨ n = 2 ∨ n = 3 ∨ n = 4 ∨ n = 5 ∨ n = 6 ∨ n = 7 ∨
    n = 8 ∨ n = 9 ∨ n = 10 ∨ n = 11 ∨ n = 12 ∨ n = 13 ∨ n = 14 ∨ n = 15 := by
  revert n; decide

/-- The three facts of the table about a `DPAD` row: its group, its test, and the frames it carries. -/
theorem dpadRowOf_table (n : Nibble) (f : Frame) :
    opOf (dpadRowOf n f) = .dpad ∧
    tableRow (dpadRowOf n f) = ⟨.frame64, (dpadField 15#4).toNat, (dpadField n).toNat, 0⟩ ∧
    wellFormed (dpadRowOf n f) = (f &&& dpadField 15#4 == dpadField n) := by
  rcases nibble_cases n with rfl | rfl | rfl | rfl | rfl | rfl | rfl | rfl | rfl | rfl | rfl | rfl | rfl | rfl | rfl | rfl
  all_goals exact ⟨rfl, rfl, rfl⟩

theorem wellFormed_dpadRowOf_iff (n : Nibble) (f : Frame) : WellFormed (dpadRowOf n f) ↔ dpadNibble f = n := by
  obtain ⟨_, _, hwf⟩ := dpadRowOf_table n f
  rw [WellFormed, hwf, beq_iff_eq, and_dpadMask_eq_iff]

/-- Every `DPAD` instruction is the row of some nibble. -/
theorem exists_dpadRowOf {i : Instr} (h : opOf i = .dpad) : ∃ n f, encode i = .frame64 f ∧ i = dpadRowOf n f := by
  cases i with
  | dpadN0 f => exact ⟨0, f, rfl, rfl⟩
  | dpadN1 f => exact ⟨1, f, rfl, rfl⟩
  | dpadN2 f => exact ⟨2, f, rfl, rfl⟩
  | dpadN3 f => exact ⟨3, f, rfl, rfl⟩
  | dpadN4 f => exact ⟨4, f, rfl, rfl⟩
  | dpadN5 f => exact ⟨5, f, rfl, rfl⟩
  | dpadN6 f => exact ⟨6, f, rfl, rfl⟩
  | dpadN7 f => exact ⟨7, f, rfl, rfl⟩
  | dpadN8 f => exact ⟨8, f, rfl, rfl⟩
  | dpadN9 f => exact ⟨9, f, rfl, rfl⟩
  | dpadNA f => exact ⟨10, f, rfl, rfl⟩
  | dpadNB f => exact ⟨11, f, rfl, rfl⟩
  | dpadNC f => exact ⟨12, f, rfl, rfl⟩
  | dpadND f => exact ⟨13, f, rfl, rfl⟩
  | dpadNE f => exact ⟨14, f, rfl, rfl⟩
  | dpadNF f => exact ⟨15, f, rfl, rfl⟩
  | _ => cases h

/-- A `DPAD` instruction on a frame that its row carries is the one decoded from that frame. -/
theorem decodeOp_encode_of_dpad {i : Instr} (hop : opOf i = .dpad) (hwf : WellFormed i) :
    decodeOp .dpad (encode i) = .ok i := by
  obtain ⟨n, f, henc, rfl⟩ := exists_dpadRowOf hop
  rw [henc, ← (wellFormed_dpadRowOf_iff n f).1 hwf]
  exact congrArg Except.ok (dpadRow_eq f)

/-! ### The three rows of a `REMAP` group (R47) -/

/-- How a `REMAP` group answers an operand: one row below 128, one at 128, one above. -/
def RowOfRange (raw : Byte) (row low mid high : Instr) : Prop :=
  (raw.toNat < 128 ∧ row = low) ∨ (raw = 128#8 ∧ row = mid) ∨ (128 < raw.toNat ∧ row = high)

theorem RowOfRange.eq_low {raw : Byte} {row low mid high : Instr} (hrow : RowOfRange raw row low mid high)
    (h : raw.toNat ≤ 127) : row = low := by
  rcases hrow with ⟨_, hr⟩ | ⟨rfl, _⟩ | ⟨hgt, _⟩
  · exact hr
  · exact absurd h (by decide)
  · omega

theorem RowOfRange.eq_high {raw : Byte} {row low mid high : Instr} (hrow : RowOfRange raw row low mid high)
    (h : 129 ≤ raw.toNat) : row = high := by
  rcases hrow with ⟨hlt, _⟩ | ⟨rfl, _⟩ | ⟨_, hr⟩
  · omega
  · exact absurd h (by decide)
  · exact hr

/-- The rows of each of the four `REMAP` groups, in the table's order. -/
def rangeRows : List TableRow := [⟨.raw8, 0x80, 0x00, 0⟩, ⟨.raw8, 0xFF, 0x80, 0⟩, ⟨.raw8, 0x80, 0x80, 1⟩]

theorem lowRow_applies_iff (raw : Byte) :
    (TableRow.mk .raw8 0x80 0x00 0).applies raw.toNat = true ↔ raw.toNat < 128 := by revert raw; decide
theorem midRow_applies_iff (raw : Byte) :
    (TableRow.mk .raw8 0xFF 0x80 0).applies raw.toNat = true ↔ raw = 128#8 := by revert raw; decide
theorem highRow_applies_iff (raw : Byte) :
    (TableRow.mk .raw8 0x80 0x80 1).applies raw.toNat = true ↔ 128 ≤ raw.toNat := by revert raw; decide

/-- Above 128 the last row of a `REMAP` group is the only one that applies. -/
theorem highRow_wins {op : Operation} {raw : Byte} (hrows : rowsOf op = rangeRows) (h : 128 < raw.toNat) :
    (TableRow.mk .raw8 0x80 0x80 1).wins op raw.toNat = true := by
  have hne : raw ≠ 128#8 := fun h' => absurd (h' ▸ h) (by decide)
  rw [wins_iff, hrows]
  refine ⟨(highRow_applies_iff raw).2 h.le, ?_⟩
  simp [rangeRows, lowRow_applies_iff, midRow_applies_iff, h.le, hne]

/-! ### The three rows of `SAMPLE` (R50) -/

theorem okRow_applies_iff (len : Len) :
    (TableRow.mk .len4 0xF 0x8 0).applies len.toNat = true ↔ len.toNat = 8 := by revert len; decide
theorem incompleteRow_applies_iff (len : Len) :
    (TableRow.mk .len4 0x8 0x0 0).applies len.toNat = true ↔ len.toNat < 8 := by revert len; decide
theorem refusedRow_applies_iff (len : Len) :
    (TableRow.mk .len4 0x8 0x8 1).applies len.toNat = true ↔ 8 ≤ len.toNat := by revert len; decide

theorem sampleRow_of_lt {len : Len} (h : len.toNat < 8) (f : Frame) : sampleRow len f = .sampleIncomplete len := by
  rcases Machine.sampleRow_cases len f with ⟨heq, _⟩ | ⟨_, hr⟩ | ⟨hgt, _⟩
  · omega
  · exact hr
  · omega

theorem sampleRow_of_gt {len : Len} (h : 8 < len.toNat) (f : Frame) : sampleRow len f = .sampleRefused len := by
  rcases Machine.sampleRow_cases len f with ⟨heq, _⟩ | ⟨hlt, _⟩ | ⟨_, hr⟩
  · omega
  · omega
  · exact hr

/-- Above 8 the last row of `SAMPLE` is the only one that applies. -/
theorem refusedRow_wins {len : Len} (h : 8 < len.toNat) :
    (TableRow.mk .len4 0x8 0x8 1).wins .sample len.toNat = true := by
  rw [wins_iff]
  refine ⟨(refusedRow_applies_iff len).2 h.le, ?_⟩
  simp [rowsOf, tableRow, okRow_applies_iff, incompleteRow_applies_iff, h.le, Nat.ne_of_gt h]

/-! ### Decoding what was encoded -/

/-- Settles O1, row by row. A `DPAD` row is well formed on the frames of its nibble, a `REMAP` or `SAMPLE` row on the
operands of its range, and there the group's decoder selects it; `ACTUATE` is the round trip of a `ControlState`; every
other group has one row. -/
theorem decodeOfEncodeIsIdentity : Obligations.DecodeOfEncodeIsIdentity := by
  unfold Obligations.DecodeOfEncodeIsIdentity
  intro i hwf
  cases i with
  | dpadN0 | dpadN1 | dpadN2 | dpadN3 | dpadN4 | dpadN5 | dpadN6 | dpadN7
  | dpadN8 | dpadN9 | dpadNA | dpadNB | dpadNC | dpadND | dpadNE | dpadNF => exact decodeOp_encode_of_dpad rfl hwf
  | remapSideLow raw => exact congrArg _ (RowOfRange.eq_low (sideRow_cases raw) (of_decide_eq_true hwf))
  | remapSideHigh raw => exact congrArg _ (RowOfRange.eq_high (sideRow_cases raw) (of_decide_eq_true hwf))
  | remapMagLow raw => exact congrArg _ (RowOfRange.eq_low (magRow_cases raw) (of_decide_eq_true hwf))
  | remapMagHigh raw => exact congrArg _ (RowOfRange.eq_high (magRow_cases raw) (of_decide_eq_true hwf))
  | remapThrustLow raw => exact congrArg _ (RowOfRange.eq_low (thrustRow_cases raw) (of_decide_eq_true hwf))
  | remapThrustHigh raw => exact congrArg _ (RowOfRange.eq_high (thrustRow_cases raw) (of_decide_eq_true hwf))
  | remapSteerLow raw => exact congrArg _ (RowOfRange.eq_low (steerRow_cases raw) (of_decide_eq_true hwf))
  | remapSteerHigh raw => exact congrArg _ (RowOfRange.eq_high (steerRow_cases raw) (of_decide_eq_true hwf))
  | actuate cs => exact congrArg (fun cs => Except.ok (Instr.actuate cs)) (decodeOfEncodedControlState cs)
  | sampleIncomplete len => exact congrArg _ (sampleRow_of_lt (of_decide_eq_true hwf) 0)
  | sampleRefused len => exact congrArg _ (sampleRow_of_gt (of_decide_eq_true hwf) 0)
  | _ => rfl

/-! ### The decoder's answer is the winning row -/

/-- What R53 asks of the instruction `i` that an operation answers on a value. -/
structure AnswersByTable (op : Operation) (v : TableValue) (i : Instr) : Prop where
  wellFormed : WellFormed i
  group : opOf i = op
  format : (tableRow i).format = v.format
  wins : ((rowsOf op).any fun r => r.applies v.number) = true → (tableRow i).wins op v.number = true
  button : ((rowsOf op).any fun r => r.applies v.number) = false →
    op ∈ [.btnTriangle, .btnCircle, .btnCross, .btnSquare, .btnL2, .btnR2, .btnL1, .btnR1,
      .btnSelect, .btnStart, .btnLStick, .btnRStick]

/-- A row that wins applies, so the clause on values to which no row applies asks nothing. -/
theorem AnswersByTable.of_wins {op : Operation} {v : TableValue} {i : Instr} (hwf : WellFormed i)
    (hop : opOf i = op) (hfmt : (tableRow i).format = v.format) (hwins : (tableRow i).wins op v.number = true) :
    AnswersByTable op v i where
  wellFormed := hwf
  group := hop
  format := hfmt
  wins _ := hwins
  button hnone := by
    have hmem : tableRow i ∈ rowsOf op := hop ▸ tableRow_mem_rowsOf i
    exact absurd (wins_iff.1 hwins).1 (List.any_eq_false.1 hnone _ hmem)

/-- A group of one row: where any row applies, that one does. -/
theorem wins_of_single_row {op : Operation} {r : TableRow} {v : Nat} (hrows : rowsOf op = [r])
    (hany : ((rowsOf op).any fun q => q.applies v) = true) : r.wins op v = true := by
  rw [hrows, List.any_cons, List.any_nil, Bool.or_false] at hany
  rw [wins_iff, hrows]
  simp [hany]

theorem answersByTable_dpadRow (f : Frame) : AnswersByTable .dpad (.frame64 f) (dpadRow f) := by
  obtain ⟨hop, hrow, _⟩ := dpadRowOf_table (dpadNibble f) f
  rw [dpadRow_eq]
  refine .of_wins ((wellFormed_dpadRowOf_iff _ f).2 rfl) hop (by rw [hrow]; rfl) (wins_of_priority_zero ?_ ?_)
  · rw [hrow]
  · rw [hrow]
    exact (applies_toNat_iff _ _ _ f 0).2 ((and_dpadMask_eq_iff f _).2 rfl)

/-- A `REMAP` group answers with the row that wins, for any group with these three rows. -/
theorem answersByTable_of_range {op : Operation} {raw : Byte} {row low mid high : Instr}
    (hrow : RowOfRange raw row low mid high) (hrows : rowsOf op = rangeRows)
    (hlow : opOf low = op ∧ tableRow low = ⟨.raw8, 0x80, 0x00, 0⟩ ∧ (raw.toNat ≤ 127 → WellFormed low))
    (hmid : opOf mid = op ∧ tableRow mid = ⟨.raw8, 0xFF, 0x80, 0⟩ ∧ WellFormed mid)
    (hhigh : opOf high = op ∧ tableRow high = ⟨.raw8, 0x80, 0x80, 1⟩ ∧ (129 ≤ raw.toNat → WellFormed high)) :
    AnswersByTable op (.raw8 raw) row := by
  rcases hrow with ⟨h, rfl⟩ | ⟨h, rfl⟩ | ⟨h, rfl⟩
  · obtain ⟨hop, ht, hwf⟩ := hlow
    refine .of_wins (hwf (by omega)) hop (by rw [ht]; rfl) ?_
    rw [ht]
    exact wins_of_priority_zero rfl ((lowRow_applies_iff raw).2 h)
  · obtain ⟨hop, ht, hwf⟩ := hmid
    refine .of_wins hwf hop (by rw [ht]; rfl) ?_
    rw [ht]
    exact wins_of_priority_zero rfl ((midRow_applies_iff raw).2 h)
  · obtain ⟨hop, ht, hwf⟩ := hhigh
    refine .of_wins (hwf h) hop (by rw [ht]; rfl) ?_
    rw [ht]
    exact highRow_wins hrows h

theorem answersByTable_sampleRow (len : Len) (f : Frame) :
    AnswersByTable .sample (.len4 len f) (sampleRow len f) := by
  rcases Machine.sampleRow_cases len f with ⟨h, hr⟩ | ⟨h, hr⟩ | ⟨h, hr⟩
  all_goals rw [hr]
  · exact .of_wins rfl rfl rfl (wins_of_priority_zero rfl ((okRow_applies_iff len).2 h))
  · exact .of_wins (decide_eq_true h) rfl rfl (wins_of_priority_zero rfl ((incompleteRow_applies_iff len).2 h))
  · exact .of_wins (decide_eq_true h) rfl rfl (refusedRow_wins h)

/-- Whatever a decoder answers, it answers by the table. -/
theorem answersByTable_of_decodeOp {op : Operation} {v : TableValue} {i : Instr} (h : decodeOp op v = .ok i) :
    AnswersByTable op v i := by
  cases v with
  | frame64 f =>
    cases op with
    | remapSide | remapMag | remapThrust | remapSteer | sample => cases h
    | dpad => cases h; exact answersByTable_dpadRow f
    | axisRY | axisRX | axisLX | axisLY | decode | actuate =>
      cases h
      exact .of_wins rfl rfl rfl (wins_of_priority_zero rfl (applies_of_mask_zero _ _ _))
    | _ =>
      cases h
      exact ⟨rfl, rfl, rfl, wins_of_single_row rfl, fun _ => by simp⟩
  | raw8 raw =>
    cases op with
    | remapSide =>
      cases h
      exact answersByTable_of_range (sideRow_cases raw) rfl ⟨rfl, rfl, decide_eq_true⟩ ⟨rfl, rfl, rfl⟩
        ⟨rfl, rfl, decide_eq_true⟩
    | remapMag =>
      cases h
      exact answersByTable_of_range (magRow_cases raw) rfl ⟨rfl, rfl, decide_eq_true⟩ ⟨rfl, rfl, rfl⟩
        ⟨rfl, rfl, decide_eq_true⟩
    | remapThrust =>
      cases h
      exact answersByTable_of_range (thrustRow_cases raw) rfl ⟨rfl, rfl, decide_eq_true⟩ ⟨rfl, rfl, rfl⟩
        ⟨rfl, rfl, decide_eq_true⟩
    | remapSteer =>
      cases h
      exact answersByTable_of_range (steerRow_cases raw) rfl ⟨rfl, rfl, decide_eq_true⟩ ⟨rfl, rfl, rfl⟩
        ⟨rfl, rfl, decide_eq_true⟩
    | _ => cases h
  | len4 len f =>
    cases op with
    | sample => cases h; exact answersByTable_sampleRow len f
    | _ => cases h

/-- Settles O2, by `answersByTable_of_decodeOp`. -/
theorem decodedRowIsTheWinningRow : Obligations.DecodedRowIsTheWinningRow := by
  unfold Obligations.DecodedRowIsTheWinningRow
  intro op v i h
  obtain ⟨hwf, hop, hfmt, hwins, hbutton⟩ := answersByTable_of_decodeOp h
  exact ⟨hwf, hop, hfmt, hwins, hbutton⟩

/-! ### The values a decoder answers on -/

/-- The format an operation is tested on (R53). -/
def formatOf : Operation → Format
  | .remapSide | .remapMag | .remapThrust | .remapSteer => .raw8
  | .sample => .len4
  | _ => .frame64

/-- All rows of a group have the operation's format, and a group has a row. -/
theorem forall_rowsOf_format_iff (op : Operation) (fmt : Format) :
    (∀ r ∈ rowsOf op, r.format = fmt) ↔ formatOf op = fmt := by
  cases op <;> simp [rowsOf, tableRow, formatOf]

/-- The decoder answers on a value of the operation's format. -/
theorem decodeOp_answers {op : Operation} {v : TableValue} (h : formatOf op = v.format) :
    ∃ i, decodeOp op v = .ok i := by
  cases v with
  | frame64 f =>
    cases op with
    | remapSide | remapMag | remapThrust | remapSteer | sample => cases h
    | _ => exact ⟨_, rfl⟩
  | raw8 raw =>
    cases op with
    | remapSide | remapMag | remapThrust | remapSteer => exact ⟨_, rfl⟩
    | _ => cases h
  | len4 len f =>
    cases op with
    | sample => exact ⟨_, rfl⟩
    | _ => cases h

/-- On a value of any other format it refuses, by name. -/
theorem decodeOp_refuses {op : Operation} {v : TableValue} (h : formatOf op ≠ v.format) :
    decodeOp op v = .error (.wrongFormat op v.format) := by
  cases v with
  | frame64 f =>
    cases op with
    | remapSide | remapMag | remapThrust | remapSteer | sample => rfl
    | _ => exact absurd rfl h
  | raw8 raw =>
    cases op with
    | remapSide | remapMag | remapThrust | remapSteer => exact absurd rfl h
    | _ => rfl
  | len4 len f =>
    cases op with
    | sample => exact absurd rfl h
    | _ => rfl

/-- Settles O3: an answer on another format would contradict the refusal. -/
theorem decoderAnswersExactlyItsFormat : Obligations.DecoderAnswersExactlyItsFormat := by
  unfold Obligations.DecoderAnswersExactlyItsFormat
  intro op v
  rw [forall_rowsOf_format_iff]
  refine ⟨⟨?onlyItsFormat, decodeOp_answers⟩, decodeOp_refuses⟩
  rintro ⟨i, hi⟩
  by_contra hne
  rw [decodeOp_refuses hne] at hi
  cases hi

/-- Settles O8, by evaluating the decoder on the words of 95_test_vectors.md. -/
theorem decodeOfWrittenWords : Obligations.DecodeOfWrittenWords := by
  unfold Obligations.DecodeOfWrittenWords
  exact ⟨rfl, rfl, rfl, rfl, rfl, rfl⟩

end Sys2Proof
end

section
/-! Thrust and steering (41_axis_remapper.md R87, R89, R93, R94): the row that an operand selects writes the direction
and the magnitude that `ACTUATE` computes from it. -/

namespace Sys2Proof
namespace Machine

/-! ### The magnitude (R87, R89) -/

/-- R87's formula, with its numbers. -/
theorem remapMag_eq (raw : Byte) :
    remapMag raw = if raw.toNat ≤ 128 then (128 - raw.toNat) * 255 / 128 else (raw.toNat - 129) * 255 / 126 := rfl

/-- R89's closed form on the low side. -/
theorem remapMag_low {raw : Byte} (h : raw.toNat ≤ 127) : remapMag raw = 255 - 2 * raw.toNat := by
  rw [remapMag_of_le (by omega)]
  omega

/-- R89's closed form on the high side. -/
theorem remapMag_high {raw : Byte} (h : 129 ≤ raw.toNat) :
    remapMag raw = 2 * (raw.toNat - 129) + (raw.toNat - 129) / 42 := by
  rw [remapMag_of_gt (by omega)]
  omega

/-! ### The direction codes (R49, R93, R94) -/

theorem thrustDirection_of_le {raw : Byte} (h : raw.toNat ≤ 128) : thrustDirection raw = .forward := by
  simp [thrustDirection, h]

theorem thrustDirection_of_gt {raw : Byte} (h : 128 < raw.toNat) : thrustDirection raw = .reverse := by
  simp [thrustDirection, Nat.not_le.2 h]

theorem thrustCode_thrustDirection (raw : Byte) :
    thrustCode (thrustDirection raw) = if raw.toNat ≤ 128 then 0 else 1 := by
  rcases Nat.lt_or_ge 128 raw.toNat with h | h
  · rw [thrustDirection_of_gt h, if_neg (Nat.not_le.2 h)]; rfl
  · rw [thrustDirection_of_le h, if_pos h]; rfl

theorem steerDirection_of_lt {raw : Byte} (h : raw.toNat < 128) : steerDirection raw = .left := by
  simp [steerDirection, h, Nat.ne_of_lt h]

theorem steerDirection_of_gt {raw : Byte} (h : 128 < raw.toNat) : steerDirection raw = .right := by
  simp [steerDirection, Nat.ne_of_gt h, h.le]

theorem steerCode_steerDirection (raw : Byte) :
    steerCode (steerDirection raw) = if raw.toNat = 128 then 0 else if raw.toNat < 128 then 1 else 2 := by
  rcases Nat.lt_trichotomy raw.toNat 128 with h | h | h
  · rw [steerDirection_of_lt h, if_neg (Nat.ne_of_lt h), if_pos h]; rfl
  · obtain rfl : raw = 128#8 := BitVec.eq_of_toNat_eq h
    rfl
  · rw [steerDirection_of_gt h, if_neg (Nat.ne_of_gt h), if_neg (Nat.not_lt.2 h.le)]; rfl

/-! ### What the selected row writes (R93, R94) -/

theorem exec_thrustRow (raw : Byte) (s : State) :
    exec (thrustRow raw) s =
      .next (s.setData (s.data.setThrust (thrustDirection raw) (magByte (remapMag raw)))) := by
  rcases thrustRow_cases raw with ⟨h, hr⟩ | ⟨rfl, hr⟩ | ⟨h, hr⟩
  · rw [hr, thrustDirection_of_le h.le]; rfl
  · rw [hr]; rfl
  · rw [hr, thrustDirection_of_gt h]; rfl

theorem exec_steerRow (raw : Byte) (s : State) :
    exec (steerRow raw) s =
      .next (s.setData (s.data.setSteer (steerDirection raw) (magByte (remapMag raw)))) := by
  rcases steerRow_cases raw with ⟨h, hr⟩ | ⟨rfl, hr⟩ | ⟨h, hr⟩
  · rw [hr, steerDirection_of_lt h]; rfl
  · rw [hr]; rfl
  · rw [hr, steerDirection_of_gt h]; rfl

end Machine

/-- Settles O20: the selected row writes R93's direction and R87's magnitude, which `ACTUATE` writes too; each row in turn
with R89's closed forms. -/
theorem thrustOfAnOperand : Obligations.ThrustOfAnOperand := by
  unfold Obligations.ThrustOfAnOperand
  refine ⟨?selected, ?low, ?mid, ?high, ?actuate⟩
  case selected =>
    intro raw s
    refine ⟨_, _, rfl, Machine.exec_thrustRow raw s, ?_, ?_⟩
    · rw [← Machine.thrustCode_thrustDirection]; rfl
    · rw [← Machine.remapMag_eq]; exact Machine.toNat_magByte_remapMag raw
  case low => intro raw s h; rw [← Machine.remapMag_low h]; rfl
  case mid => exact fun s => rfl
  case high => intro raw s h; rw [← Machine.remapMag_high h]; rfl
  case actuate => exact fun cs s => ⟨_, _, _, rfl, Machine.exec_thrustRow cs.leftStickY s, rfl, rfl, rfl⟩

/-- Settles O21: the selected row writes R94's direction and R87's magnitude, which `ACTUATE` writes too; each row in turn
with R89's closed forms. -/
theorem steerOfAnOperand : Obligations.SteerOfAnOperand := by
  unfold Obligations.SteerOfAnOperand
  refine ⟨?selected, ?low, ?mid, ?high, ?actuate⟩
  case selected =>
    intro raw s
    refine ⟨_, _, rfl, Machine.exec_steerRow raw s, ?_, ?_⟩
    · rw [← Machine.steerCode_steerDirection]; rfl
    · rw [← Machine.remapMag_eq]; exact Machine.toNat_magByte_remapMag raw
  case low => intro raw s h; rw [← Machine.remapMag_low h]; rfl
  case mid => exact fun s => rfl
  case high => intro raw s h; rw [← Machine.remapMag_high h]; rfl
  case actuate => exact fun cs s => ⟨_, _, _, rfl, Machine.exec_steerRow cs.rightStickX s, rfl, rfl, rfl⟩

end Sys2Proof
end

section
/-! What every step leaves: legal ports and the invariant (30_encoding.md R45, R48, R49, 42_sample_step.md R108). -/

namespace Sys2Proof
namespace Machine

/-- The environment's next input stands on the port as a canonical memory (log 5). -/
theorem presentNext_frame_wf (s : State) : Memory.wf s.presentNext.frame = true := by
  rcases State.presentNext_cases s with ⟨_, hs⟩ | ⟨p, rest, _, hs⟩
  all_goals rw [hs]; exact Memory.ofFrame_wf _

/-- Driving the next input gives the invariant to any state whose output side meets it. -/
theorem inv_presentNext {s : State} (hstrobes : ¬ (s.outValid = true ∧ s.errIncomplete = true))
    (hlen : s.errIncomplete = s.incompleteLen.isSome) (hshort : ∀ n, s.incompleteLen = some n → n.toNat < 8)
    (hports : resultPortsLegal s) : Inv s.presentNext where
  frameCanonical := presentNext_frame_wf s
  strobesExclusive := by simpa using hstrobes
  lengthWithError := by simpa using hlen
  lengthShort := by simpa using hshort
  resultPorts := by simpa [resultPortsLegal] using hports

/-- `Straight` comes from 128 alone, where the magnitude is 0 (R94). -/
theorem magByte_eq_zero_of_straight {raw : Byte} (h : steerCode (steerDirection raw) = 0#2) :
    magByte (remapMag raw) = 0#8 := by
  rcases Nat.lt_trichotomy raw.toNat 128 with hlt | heq | hgt
  · rw [steerDirection_of_lt hlt] at h; cases h
  · obtain rfl : raw = 128#8 := BitVec.eq_of_toNat_eq heq
    rfl
  · rw [steerDirection_of_gt hgt] at h; cases h

/-- The ports of a valid sample carry produced codes only. -/
theorem sampledState_ports_legal (s : State) (f : Frame) : resultPortsLegal (sampledState s f) := by
  refine fun _ => ⟨dpadCode_toNat_le _, steerCode_toNat_le _, ?_⟩
  exact magByte_eq_zero_of_straight (raw := steerOperand (decodeFrame f))

/-- A completed step ends in the invariant, from any state: it drives every output and the next input anew. -/
theorem inv_of_step {s t : State} (h : step s = .next t) : Inv t := by
  rcases step_cases s with ⟨_, hs⟩ | ⟨_, _, hs⟩ | ⟨_, hl, hs⟩ | ⟨_, _, hs⟩
  all_goals rw [hs] at h; cases h
  · exact inv_presentNext (by simp) (by simp) (by simp) (by simp [resultPortsLegal])
  · exact inv_presentNext (by simp [sampledState]) (by simp [sampledState]) (by simp [sampledState])
      (sampledState_ports_legal s _)
  · exact inv_presentNext (by simp) (by simp) (by simpa using hl) (by simp [resultPortsLegal])

end Machine

/-- Settles O41, by `inv_of_step`, which does not need the invariant of the state before. -/
theorem stepKeepsTheInvariant : Obligations.StepKeepsTheInvariant := by
  unfold Obligations.StepKeepsTheInvariant
  exact fun _ _ _ h => Machine.inv_of_step h

/-- Settles O37: a full read is sampled whatever its bytes are, and the value table answers `Idle` by default. -/
theorem undefinedNibbleIsSilentlyIdle : Obligations.UndefinedNibbleIsSilentlyIdle := by
  unfold Obligations.UndefinedNibbleIsSilentlyIdle
  intro s f hvalid hlen hread
  obtain rfl : Machine.Memory.toFrame s.frame = f := by simpa using hread
  refine ⟨_, Machine.step_of_full_read hvalid hlen, ?valid, ?noError, ?noLength, ?idle⟩
  case idle =>
    intro hnibble
    rw [Machine.State.presentNext_data, ← dpadOfNibble_eq_idle hnibble]
    rfl
  all_goals simp [Machine.sampledState]

end Sys2Proof
end

section
/-! What the frame decoder reads (40_frame_decoder.md R61 to R82): each axis is one byte of the frame, each button one bit
under its (byte, mask) pair, the D-pad one nibble; and which two frames decode alike. -/

namespace Sys2Proof

/-! ### A bit by its byte and mask (R81), a byte by its number (R7) -/

/-- R81: the absolute bit index and the (byte, mask) pair are one Boolean. -/
theorem frameBit_eq_mask (f : Frame) (k : Nat) {j : Nat} (hj : j < 8) :
    frameBit f (8 * k + j) = decide (frameByte f k &&& BitVec.ofNat 8 (2 ^ j) ≠ 0#8) := by
  have hmask : BitVec.ofNat 8 (2 ^ j) = BitVec.twoPow 8 j := BitVec.eq_of_toNat_eq (by simp)
  have hpos : BitVec.twoPow 8 j ≠ 0#8 := by revert j; decide
  rw [hmask, BitVec.and_twoPow, getLsbD_frameByte f k j hj]
  cases frameBit f (8 * k + j) <;> simp [hpos]

/-- The number read off the frame number at byte `k`, as a byte. -/
theorem ofNat_div_mod_eq_frameByte (f : Frame) (k : Nat) :
    BitVec.ofNat 8 (f.toNat / 2 ^ (8 * k) % 256) = frameByte f k := by
  rw [← toNat_frameByte, BitVec.ofNat_toNat, BitVec.setWidth_eq]

/-! ### The buttons by the pairs of R41 -/

theorem faceValue_eq_masks (f : Frame) :
    faceValue f =
      { triangle := decide (frameByte f 5 &&& 0x10#8 ≠ 0#8), circle := decide (frameByte f 5 &&& 0x20#8 ≠ 0#8),
        cross := decide (frameByte f 5 &&& 0x40#8 ≠ 0#8), square := decide (frameByte f 5 &&& 0x80#8 ≠ 0#8) } :=
  (FaceButtons.mk.injEq ..).mpr
    ⟨frameBit_eq_mask f 5 (j := 4) (by decide), frameBit_eq_mask f 5 (j := 5) (by decide),
     frameBit_eq_mask f 5 (j := 6) (by decide), frameBit_eq_mask f 5 (j := 7) (by decide)⟩

theorem shoulderValue_eq_masks (f : Frame) :
    shoulderValue f =
      { l2 := decide (frameByte f 6 &&& 0x01#8 ≠ 0#8), r2 := decide (frameByte f 6 &&& 0x02#8 ≠ 0#8),
        l1 := decide (frameByte f 6 &&& 0x04#8 ≠ 0#8), r1 := decide (frameByte f 6 &&& 0x08#8 ≠ 0#8) } :=
  (ShoulderButtons.mk.injEq ..).mpr
    ⟨frameBit_eq_mask f 6 (j := 2) (by decide), frameBit_eq_mask f 6 (j := 0) (by decide),
     frameBit_eq_mask f 6 (j := 3) (by decide), frameBit_eq_mask f 6 (j := 1) (by decide)⟩

theorem menuValue_eq_masks (f : Frame) :
    menuValue f =
      { select := decide (frameByte f 6 &&& 0x10#8 ≠ 0#8), start := decide (frameByte f 6 &&& 0x20#8 ≠ 0#8),
        leftStickClick := decide (frameByte f 6 &&& 0x40#8 ≠ 0#8),
        rightStickClick := decide (frameByte f 6 &&& 0x80#8 ≠ 0#8) } :=
  (MenuButtons.mk.injEq ..).mpr
    ⟨frameBit_eq_mask f 6 (j := 4) (by decide), frameBit_eq_mask f 6 (j := 5) (by decide),
     frameBit_eq_mask f 6 (j := 6) (by decide), frameBit_eq_mask f 6 (j := 7) (by decide)⟩

/-- Settles O6, by `frameBit_eq_mask`, for any bit and then for the twelve button bits. -/
theorem buttonBitIndexAgreesWithByteMask : Obligations.ButtonBitIndexAgreesWithByteMask := by
  unfold Obligations.ButtonBitIndexAgreesWithByteMask
  refine ⟨?anyBit, ?buttons⟩
  case anyBit => exact fun f k j _ hj => by rw [frameBit_eq_mask f k hj, decide_eq_true_iff]
  case buttons =>
    intro f
    rw [← faceValue_eq_masks, ← shoulderValue_eq_masks, ← menuValue_eq_masks]
    rfl

/-! ### The D-pad nibble (R42, R65) -/

/-- The D-pad nibble as R65 writes it, `F.byte[5][3:0]`. -/
theorem toNat_dpadNibble (f : Frame) : (dpadNibble f).toNat = (frameByte f 5).toNat % 16 := by
  rw [dpadNibble, ← extractLsb'_frameByte f 5 0 4 (by decide)]
  simp

theorem dpadOfNibble_eq_toNat (n : Nibble) :
    dpadOfNibble n =
      if n.toNat = 0x0 then .up else if n.toNat = 0x2 then .right else if n.toNat = 0x4 then .down
      else if n.toNat = 0x6 then .left else .idle := by
  revert n; decide

/-- The table gives two nibbles one value only when that value is its default. -/
theorem dpadOfNibble_eq_idle_of_ne {n m : Nibble} (h : dpadOfNibble n = dpadOfNibble m) (hne : n ≠ m) :
    dpadOfNibble n = .idle ∧ dpadOfNibble m = .idle := by
  revert n m; decide

/-! ### Which frames decode alike (R79) -/

/-- Equal slices have equal bits. -/
theorem frameBit_eq_of_slice_eq {f g : Frame} {k : Nat} (h : f.extractLsb' k 4 = g.extractLsb' k 4) {i : Nat}
    (hlo : k ≤ i) (hhi : i < k + 4) : frameBit f i = frameBit g i := by
  obtain ⟨j, rfl⟩ := Nat.exists_eq_add_of_le hlo
  have hj : j < 4 := by omega
  rw [← getLsbD_extractLsb'_eq_frameBit f k hj, h, getLsbD_extractLsb'_eq_frameBit g k hj]

/-- A decoded snapshot gives back every bit of 8 to 55 but those of the D-pad nibble: the axes are whole bytes, and the
buttons are three slices. -/
theorem frameBit_eq_of_decodeFrame_eq {f g : Frame} (h : decodeFrame f = decodeFrame g) {i : Nat} (hlo : 8 ≤ i)
    (hhi : i ≤ 55) (hdpad : ¬ (40 ≤ i ∧ i ≤ 43)) : frameBit f i = frameBit g i := by
  obtain ⟨hry, hrx, hlx, hly, -, hface, hshoulder, hmenu⟩ := (ControlState.mk.injEq ..).mp h
  rcases Nat.lt_or_ge i 40 with haxis | hbutton
  · have hbyte : frameByte f (i / 8) = frameByte g (i / 8) := by
      obtain hk | hk | hk | hk : i / 8 = 1 ∨ i / 8 = 2 ∨ i / 8 = 3 ∨ i / 8 = 4 := by omega
      all_goals rw [hk]; assumption
    rw [frameBit_eq_getLsbD_frameByte, hbyte, ← frameBit_eq_getLsbD_frameByte]
  · have hface := congrArg Machine.faceCode hface
    have hshoulder := congrArg Machine.shoulderCode hshoulder
    have hmenu := congrArg Machine.menuCode hmenu
    rw [Machine.faceCode_faceValue, Machine.faceCode_faceValue] at hface
    rw [Machine.shoulderCode_shoulderValue, Machine.shoulderCode_shoulderValue] at hshoulder
    rw [Machine.menuCode_menuValue, Machine.menuCode_menuValue] at hmenu
    obtain hi | hi | hi : i < 48 ∨ (48 ≤ i ∧ i < 52) ∨ 52 ≤ i := by omega
    · exact frameBit_eq_of_slice_eq hface (by omega) (by omega)
    · exact frameBit_eq_of_slice_eq hshoulder hi.1 hi.2
    · exact frameBit_eq_of_slice_eq hmenu hi (by omega)

/-- What decides that two frames decode alike: the bits of 8 to 55 outside the D-pad nibble, and the D-pad value. -/
theorem decodeFrame_eq_iff (f g : Frame) :
    decodeFrame f = decodeFrame g ↔
      (∀ i, 8 ≤ i → i ≤ 55 → ¬ (40 ≤ i ∧ i ≤ 43) → frameBit f i = frameBit g i) ∧ dpadValue f = dpadValue g := by
  constructor
  · exact fun h => ⟨fun _ => frameBit_eq_of_decodeFrame_eq h, congrArg ControlState.dpad h⟩
  · rintro ⟨hbit, hdpad⟩
    have hbyte (k : Nat) (hlo : 1 ≤ k) (hhi : k ≤ 4) : frameByte f k = frameByte g k :=
      BitVec.eq_of_getLsbD_eq fun j hj => by
        rw [getLsbD_frameByte f k j hj, getLsbD_frameByte g k j hj, hbit _ (by omega) (by omega) (by omega)]
    simp (disch := decide) only [decodeFrame, axisRYValue, axisRXValue, axisLXValue, axisLYValue, faceValue,
      shoulderValue, menuValue, hbyte, hbit, hdpad]

/-- Settles O5: `decodeFrame_eq_iff` confines the difference to the D-pad nibble, where the value table tells any two
nibbles apart but those it sends to its default. -/
theorem decodeSeparatesFrames : Obligations.DecodeSeparatesFrames := by
  unfold Obligations.DecodeSeparatesFrames
  refine ⟨fun f g => decodeFrame_congr, ?differ⟩
  case differ =>
    rintro f g ⟨i, hlo, hhi, hne⟩
    rw [decodeFrame_eq_iff]
    constructor
    · rintro ⟨hbit, hdpad⟩
      have hconfined (j : Nat) (hlo : 8 ≤ j) (hhi : j ≤ 55) (hj : frameBit f j ≠ frameBit g j) : 40 ≤ j ∧ j ≤ 43 :=
        by_contra fun hout => hj (hbit j hlo hhi hout)
      obtain ⟨hi40, hi43⟩ := hconfined i hlo hhi hne
      have hnibble : dpadNibble f ≠ dpadNibble g := fun heq =>
        hne (frameBit_eq_of_slice_eq (k := 40) heq hi40 (by omega))
      exact ⟨hconfined, dpadOfNibble_eq_idle_of_ne hdpad hnibble⟩
    · rintro ⟨hconfined, hf, hg⟩
      exact ⟨fun j hlo hhi hout => by_contra fun hj => hout (hconfined j hlo hhi hj), hf.trans hg.symm⟩

/-! ### One button alone (R82) -/

/-- The bytes 0 and 7 of packed bytes have no part in `DECODE` (R44). -/
theorem decodeFrame_frameOfBytes_ends (b0 b7 c0 c7 b1 b2 b3 b4 b5 b6 : Byte) :
    decodeFrame (frameOfBytes [b0, b1, b2, b3, b4, b5, b6, b7]) =
      decodeFrame (frameOfBytes [c0, b1, b2, b3, b4, b5, b6, c7]) := by
  refine decodeFrame_congr fun k hlo hhi => ?_
  rw [frameByte_frameOfBytes _ k (by omega), frameByte_frameOfBytes _ k (by omega)]
  interval_cases k <;> rfl

/-- Settles O7: with 0 in the ignored bytes twelve frames are left, and each is decoded. -/
theorem singleButtonFrameRoundTrip : Obligations.SingleButtonFrameRoundTrip := by
  unfold Obligations.SingleButtonFrameRoundTrip
  intro b0 b7 i hi
  rw [decodeFrame_frameOfBytes_ends b0 b7 0 0]
  revert i
  decide

end Sys2Proof
end

section
/-! What the field rows write (40_frame_decoder.md R61 to R77): an axis row its byte, the `DPAD` row of a frame the value of
its nibble, a button row one line of its port. -/

namespace Sys2Proof
namespace Machine

/-! ### The `DPAD` row of a frame (R65) -/

theorem exec_dpadRowOf (n : Nibble) (f : Frame) (s : State) :
    exec (dpadRowOf n f) s = .next (s.setData (s.data.setDpad (dpadOfNibble n))) := by
  rcases nibble_cases n with rfl | rfl | rfl | rfl | rfl | rfl | rfl | rfl | rfl | rfl | rfl | rfl | rfl | rfl | rfl | rfl
  all_goals rfl

theorem exec_dpadRow (f : Frame) (s : State) :
    exec (dpadRow f) s = .next (s.setData (s.data.setDpad (dpadValue f))) := by
  rw [dpadRow_eq, exec_dpadRowOf, dpadValue]

/-! ### One line of a button port (R66 to R77) -/

/-- A write to line `i` of a four-line port: the next state differs in that port alone, and there in that line alone.
`withPort` is the state with another value on the port. -/
theorem exists_next_of_putBit (s : State) {port : State → BitVec 4} {withPort : BitVec 4 → State}
    (hport : ∀ v, port (withPort v) = v) (i : Nat) {b b' : Bool} (hb : b = b') :
    ∃ t, (.next (withPort (putBit (port s) i b)) : Result) = .next t ∧ t = withPort (port t) ∧
      ∀ j, j < 4 → (port t).getLsbD j = if j = i then b' else (port s).getLsbD j := by
  refine ⟨_, rfl, by rw [hport], fun j hj => ?_⟩
  rw [hport, getLsbD_putBit _ _ _ _ hj, hb]

end Machine

/-- Settles O9: the port of each row takes its byte of the frame, which is cut from the frame number (R7). -/
theorem axisInstructionsCopyTheirByte : Obligations.AxisInstructionsCopyTheirByte := by
  unfold Obligations.AxisInstructionsCopyTheirByte
  intro f s
  have hbyte := ofNat_div_mod_eq_frameByte f
  refine ⟨?ry, ?rx, ?lx, ?ly⟩
  case ry => rw [hbyte 1]; rfl
  case rx => rw [hbyte 2]; rfl
  case lx => rw [hbyte 3]; rfl
  case ly => rw [hbyte 4]; rfl

/-- Settles O11, by `exec_dpadRow` and the value table read on numbers. -/
theorem dpadOfAFrame : Obligations.DpadOfAFrame := by
  unfold Obligations.DpadOfAFrame
  intro f s
  refine ⟨_, rfl, ?_⟩
  rw [Machine.exec_dpadRow, dpadValue, dpadOfNibble_eq_toNat, toNat_dpadNibble]
  rfl

/-- Settles O12: each row is a write to its own line of the face port, of the bit under its mask. -/
theorem faceButtonInstructions : Obligations.FaceButtonInstructions := by
  unfold Obligations.FaceButtonInstructions
  intro f s
  have line := Machine.exists_next_of_putBit s (port := fun t => t.data.face)
    (withPort := fun v => { s with data := { s.data with face := v } }) (fun _ => rfl)
  exact ⟨line 0 (frameBit_eq_mask f 5 (j := 4) (by decide)), line 1 (frameBit_eq_mask f 5 (j := 5) (by decide)),
    line 2 (frameBit_eq_mask f 5 (j := 6) (by decide)), line 3 (frameBit_eq_mask f 5 (j := 7) (by decide))⟩

/-- Settles O13: each row is a write to its own line of the shoulder port, of the bit under its mask. -/
theorem shoulderButtonInstructions : Obligations.ShoulderButtonInstructions := by
  unfold Obligations.ShoulderButtonInstructions
  intro f s
  have line := Machine.exists_next_of_putBit s (port := fun t => t.data.shoulder)
    (withPort := fun v => { s with data := { s.data with shoulder := v } }) (fun _ => rfl)
  exact ⟨line 0 (frameBit_eq_mask f 6 (j := 0) (by decide)), line 1 (frameBit_eq_mask f 6 (j := 1) (by decide)),
    line 2 (frameBit_eq_mask f 6 (j := 2) (by decide)), line 3 (frameBit_eq_mask f 6 (j := 3) (by decide))⟩

/-- Settles O14: each row is a write to its own line of the menu port, of the bit under its mask. -/
theorem menuButtonInstructions : Obligations.MenuButtonInstructions := by
  unfold Obligations.MenuButtonInstructions
  intro f s
  have line := Machine.exists_next_of_putBit s (port := fun t => t.data.menu)
    (withPort := fun v => { s with data := { s.data with menu := v } }) (fun _ => rfl)
  exact ⟨line 0 (frameBit_eq_mask f 6 (j := 4) (by decide)), line 1 (frameBit_eq_mask f 6 (j := 5) (by decide)),
    line 2 (frameBit_eq_mask f 6 (j := 6) (by decide)), line 3 (frameBit_eq_mask f 6 (j := 7) (by decide))⟩

end Sys2Proof
end

section
/-! The operations of one `SAMPLE` in any order (40_frame_decoder.md R78, 41_axis_remapper.md R95, 42_sample_step.md R105):
each row writes its own place of the ports with a value that the frame decides, so the rows commute; in the order of the
table they give `DECODE`, and then `SAMPLE`. -/

namespace Sys2Proof
namespace Machine

/-! ### Performing a list of rows -/

theorem execAll_cons_of_next {i : Instr} {s t : State} (h : exec i s = .next t) (rows : List Instr) :
    execAll (i :: rows) s = execAll rows t := by
  rw [execAll, h]

/-- Rows after rows, where the first ones complete. -/
theorem execAll_append_of_next {rows : List Instr} {s t : State} (h : execAll rows s = .next t)
    (rest : List Instr) : execAll (rows ++ rest) s = execAll rest t := by
  induction rows generalizing s with
  | nil => cases h; rfl
  | cons i rows ih =>
    rw [List.cons_append]
    rw [execAll] at h ⊢
    cases hi : exec i s with
    | next u => rw [hi] at h; exact ih h
    | fault φ => rw [hi] at h; cases h
    | refused ρ => rw [hi] at h; cases h

/-- Two rows that complete, in either order, with one outcome. -/
def RowsCommute (i j : Instr) : Prop :=
  ∀ s, ∃ t, execAll [i, j] s = .next t ∧ execAll [j, i] s = .next t

/-- Rows that commute may be performed in any order. -/
theorem execAll_perm {rows rows' : List Instr} (h : rows.Perm rows')
    (hcomm : ∀ i ∈ rows, ∀ j ∈ rows, RowsCommute i j) (s : State) : execAll rows s = execAll rows' s := by
  induction h generalizing s with
  | nil => rfl
  | cons i _ ih =>
    have ih := ih fun j hj k hk => hcomm j (.tail _ hj) k (.tail _ hk)
    simp only [execAll, ih]
  | swap i j rows =>
    obtain ⟨t, hji, hij⟩ := hcomm j (by simp) i (by simp) s
    exact (execAll_append_of_next hji rows).trans (execAll_append_of_next hij rows).symm
  | trans h₁ _ ih₁ ih₂ =>
    rw [ih₁ hcomm, ih₂ fun i hi j hj => hcomm i (h₁.mem_iff.2 hi) j (h₁.mem_iff.2 hj)]

/-! ### The places of the results on the ports (R20) -/

/-- Where one operation's result stands: a port, one line of a button port, or the two ports of a remap. -/
inductive Place where
  | rightStickY | rightStickX | leftStickX | leftStickY
  | dpad
  | face (line : Nat) | shoulder (line : Nat) | menu (line : Nat)
  | thrust | steer

/-- The ports `d` with the place `p` as it is in `r`. -/
def DataPorts.copyPlace (r : DataPorts) (p : Place) (d : DataPorts) : DataPorts :=
  match p with
  | .rightStickY => { d with rightStickY := r.rightStickY }
  | .rightStickX => { d with rightStickX := r.rightStickX }
  | .leftStickX => { d with leftStickX := r.leftStickX }
  | .leftStickY => { d with leftStickY := r.leftStickY }
  | .dpad => { d with dpad := r.dpad }
  | .face i => d.setFaceBit i (r.face.getLsbD i)
  | .shoulder i => d.setShoulderBit i (r.shoulder.getLsbD i)
  | .menu i => d.setMenuBit i (r.menu.getLsbD i)
  | .thrust => { d with thrustDir := r.thrustDir, thrustMag := r.thrustMag }
  | .steer => { d with steerDir := r.steerDir, steerMag := r.steerMag }

/-- Two lines of one port copied from one value: it does not matter which comes first. -/
theorem putBit_getLsbD_comm (r v : BitVec 4) (i j : Nat) :
    putBit (putBit v i (r.getLsbD i)) j (r.getLsbD j) = putBit (putBit v j (r.getLsbD j)) i (r.getLsbD i) := by
  by_cases h : i = j
  · rw [h]
  · exact putBit_comm v i j _ _ h

/-- Places copied from the same ports commute: two lines of one port by `putBit_getLsbD_comm`, any other two because they
are different fields, or the same. -/
theorem DataPorts.copyPlace_comm (r d : DataPorts) (p q : Place) :
    r.copyPlace q (r.copyPlace p d) = r.copyPlace p (r.copyPlace q d) := by
  cases p with
  | face i =>
    cases q with
    | face j => exact congrArg (fun v => { d with face := v }) (putBit_getLsbD_comm r.face d.face i j)
    | _ => rfl
  | shoulder i =>
    cases q with
    | shoulder j => exact congrArg (fun v => { d with shoulder := v }) (putBit_getLsbD_comm r.shoulder d.shoulder i j)
    | _ => rfl
  | menu i =>
    cases q with
    | menu j => exact congrArg (fun v => { d with menu := v }) (putBit_getLsbD_comm r.menu d.menu i j)
    | _ => rfl
  | _ => cases q <;> rfl

/-! ### Each row copies its own place of one result (R60, R85) -/

/-- The ports with the whole result pair of a frame (R108). -/
def DataPorts.setResults (d : DataPorts) (f : Frame) : DataPorts :=
  (d.setControlState (decodeFrame f)).setCommand (actuate (decodeFrame f))

/-- The row writes one place of the ports `r`, whatever the state is, and completes. -/
def CopiesPlace (r : DataPorts) (i : Instr) : Prop :=
  ∃ p, ∀ s, exec i s = .next (s.setData (r.copyPlace p s.data))

theorem CopiesPlace.commute {r : DataPorts} {i j : Instr} (hi : CopiesPlace r i) (hj : CopiesPlace r j) :
    RowsCommute i j := by
  obtain ⟨p, hp⟩ := hi
  obtain ⟨q, hq⟩ := hj
  intro s
  refine ⟨s.setData (r.copyPlace q (r.copyPlace p s.data)), ?_, ?_⟩
  · rw [execAll_cons_of_next (hp s), execAll_cons_of_next (hq _)]; rfl
  · rw [execAll_cons_of_next (hq s), execAll_cons_of_next (hp _), DataPorts.copyPlace_comm]; rfl

/-- A row that writes line `i` of the face port copies it: the lines of the result's code are bits of the frame. -/
theorem copiesPlace_face (d : DataPorts) (f : Frame) {row : Instr} {i : Nat} (hi : i < 4)
    (hrow : ∀ s, exec row s = .next (s.setData (s.data.setFaceBit i (frameBit f (44 + i))))) :
    CopiesPlace (d.setResults f) row :=
  ⟨.face i, fun s => by rw [hrow, ← getLsbD_extractLsb'_eq_frameBit f 44 hi, ← faceCode_faceValue]; rfl⟩

theorem copiesPlace_shoulder (d : DataPorts) (f : Frame) {row : Instr} {i : Nat} (hi : i < 4)
    (hrow : ∀ s, exec row s = .next (s.setData (s.data.setShoulderBit i (frameBit f (48 + i))))) :
    CopiesPlace (d.setResults f) row :=
  ⟨.shoulder i, fun s => by rw [hrow, ← getLsbD_extractLsb'_eq_frameBit f 48 hi, ← shoulderCode_shoulderValue]; rfl⟩

theorem copiesPlace_menu (d : DataPorts) (f : Frame) {row : Instr} {i : Nat} (hi : i < 4)
    (hrow : ∀ s, exec row s = .next (s.setData (s.data.setMenuBit i (frameBit f (52 + i))))) :
    CopiesPlace (d.setResults f) row :=
  ⟨.menu i, fun s => by rw [hrow, ← getLsbD_extractLsb'_eq_frameBit f 52 hi, ← menuCode_menuValue]; rfl⟩

/-- Each of the seventeen field rows of a frame copies its place of the frame's result. -/
theorem fieldRows_copyPlace (d : DataPorts) (f : Frame) : ∀ i ∈ fieldRows f, CopiesPlace (d.setResults f) i := by
  have face {row : Instr} {i : Nat} := copiesPlace_face d f (row := row) (i := i)
  have shoulder {row : Instr} {i : Nat} := copiesPlace_shoulder d f (row := row) (i := i)
  have menu {row : Instr} {i : Nat} := copiesPlace_menu d f (row := row) (i := i)
  simp only [fieldRows, List.forall_mem_cons]
  exact ⟨⟨.rightStickY, fun _ => rfl⟩, ⟨.rightStickX, fun _ => rfl⟩, ⟨.leftStickX, fun _ => rfl⟩,
    ⟨.leftStickY, fun _ => rfl⟩, ⟨.dpad, exec_dpadRow f⟩,
    face (i := 0) (by decide) fun _ => rfl, face (i := 1) (by decide) fun _ => rfl,
    face (i := 2) (by decide) fun _ => rfl, face (i := 3) (by decide) fun _ => rfl,
    shoulder (i := 0) (by decide) fun _ => rfl, shoulder (i := 1) (by decide) fun _ => rfl,
    shoulder (i := 2) (by decide) fun _ => rfl, shoulder (i := 3) (by decide) fun _ => rfl,
    menu (i := 0) (by decide) fun _ => rfl, menu (i := 1) (by decide) fun _ => rfl,
    menu (i := 2) (by decide) fun _ => rfl, menu (i := 3) (by decide) fun _ => rfl, List.forall_mem_nil _⟩

/-- So does each of the two remap rows that its axes select. -/
theorem commandRows_copyPlace (d : DataPorts) (f : Frame) :
    ∀ i ∈ commandRows (decodeFrame f), CopiesPlace (d.setResults f) i := by
  simp only [commandRows, List.forall_mem_cons]
  exact ⟨⟨.thrust, exec_thrustRow _⟩, ⟨.steer, exec_steerRow _⟩, List.forall_mem_nil _⟩

/-! ### The rows in the order of the table -/

/-- The four lines of the face port, written one after another, are its code. -/
theorem execAll_faceRows (f : Frame) (s : State) :
    execAll [.btnTriangle f, .btnCircle f, .btnCross f, .btnSquare f] s =
      .next (s.setData { s.data with face := faceCode (faceValue f) }) := by
  rw [faceCode, ← putBit_all s.data.face]; rfl

theorem execAll_shoulderRows (f : Frame) (s : State) :
    execAll [.btnL2 f, .btnR2 f, .btnL1 f, .btnR1 f] s =
      .next (s.setData { s.data with shoulder := shoulderCode (shoulderValue f) }) := by
  rw [shoulderCode, ← putBit_all s.data.shoulder]; rfl

theorem execAll_menuRows (f : Frame) (s : State) :
    execAll [.btnSelect f, .btnStart f, .btnLStick f, .btnRStick f] s =
      .next (s.setData { s.data with menu := menuCode (menuValue f) }) := by
  rw [menuCode, ← putBit_all s.data.menu]; rfl

theorem execAll_axisRows (f : Frame) (s : State) :
    execAll [.axisRY f, .axisRX f, .axisLX f, .axisLY f] s =
      .next (s.setData { s.data with
        rightStickY := axisRYValue f, rightStickX := axisRXValue f
        leftStickX := axisLXValue f, leftStickY := axisLYValue f }) := rfl

/-- R78: axes, D-pad, and the three button ports are the whole `ControlState`. -/
theorem execAll_fieldRows (f : Frame) (s : State) :
    execAll (fieldRows f) s = .next (s.setData (s.data.setControlState (decodeFrame f))) := by
  have hgroups : fieldRows f =
      [.axisRY f, .axisRX f, .axisLX f, .axisLY f] ++ (dpadRow f ::
        ([.btnTriangle f, .btnCircle f, .btnCross f, .btnSquare f] ++
          ([.btnL2 f, .btnR2 f, .btnL1 f, .btnR1 f] ++
            [.btnSelect f, .btnStart f, .btnLStick f, .btnRStick f]))) := rfl
  rw [hgroups, execAll_append_of_next (execAll_axisRows f _), execAll_cons_of_next (exec_dpadRow f _),
    execAll_append_of_next (execAll_faceRows f _), execAll_append_of_next (execAll_shoulderRows f _), execAll_menuRows]
  rfl

/-- R95: the two remaps write the whole command. -/
theorem execAll_commandRows (cs : ControlState) (s : State) :
    execAll (commandRows cs) s = .next (s.setData (s.data.setCommand (actuate cs))) := by
  rw [commandRows, execAll_cons_of_next (exec_thrustRow _ s), execAll_cons_of_next (exec_steerRow _ _)]
  rfl

/-- R105: the nineteen rows in the order of the table write the result pair. -/
theorem execAll_allRows (f : Frame) (s : State) :
    execAll (fieldRows f ++ commandRows (decodeFrame f)) s = .next (s.setData (s.data.setResults f)) := by
  rw [execAll_append_of_next (execAll_fieldRows f s), execAll_commandRows]
  rfl

end Machine

/-- Settles O16: the field rows commute, each copying its place of one result, and in the table's order they are
`DECODE`. -/
theorem fieldRowsInAnyOrderAreDecode : Obligations.FieldRowsInAnyOrderAreDecode := by
  unfold Obligations.FieldRowsInAnyOrderAreDecode
  intro f s rows hperm
  have hcopy (i : Instr) (hi : i ∈ rows) := Machine.fieldRows_copyPlace s.data f i (hperm.mem_iff.1 hi)
  rw [Machine.execAll_perm hperm fun i hi j hj => (hcopy i hi).commute (hcopy j hj)]
  exact Machine.execAll_fieldRows f s

/-- Settles O31: the nineteen rows commute, each copying its place of one result, and in the table's order they write the
pair that `SAMPLE` delivers. -/
theorem sampleIsItsRowsInAnyOrder : Obligations.SampleIsItsRowsInAnyOrder := by
  unfold Obligations.SampleIsItsRowsInAnyOrder
  intro f s rows hperm
  have hcopy (i : Instr) (hi : i ∈ rows) : Machine.CopiesPlace (s.data.setResults f) i :=
    (List.mem_append.1 (hperm.mem_iff.1 hi)).elim (Machine.fieldRows_copyPlace s.data f i)
      (Machine.commandRows_copyPlace s.data f i)
  rw [Machine.execAll_perm hperm fun i hi j hj => (hcopy i hi).commute (hcopy j hj)]
  exact ⟨_, Machine.execAll_allRows f s, rfl⟩

end Sys2Proof
end

section
/-! The axis remapper (41_axis_remapper.md R86 to R98): the row that an operand selects writes the side or the magnitude of
that operand, `ACTUATE` the whole command from two axes; and what the magnitude of R87 is as a function of its operand. -/

namespace Sys2Proof
namespace Machine

/-! ### What the selected row writes (R86, R87) -/

theorem remapSide_of_le {raw : Byte} (h : raw.toNat ≤ 128) : remapSide raw = .low := by
  simp [remapSide, h]

theorem remapSide_of_gt {raw : Byte} (h : 128 < raw.toNat) : remapSide raw = .high := by
  simp [remapSide, Nat.not_le.2 h]

theorem exec_sideRow (raw : Byte) (s : State) : exec (sideRow raw) s = .next (s.setSide (remapSide raw)) := by
  rcases sideRow_cases raw with ⟨h, hr⟩ | ⟨rfl, hr⟩ | ⟨h, hr⟩
  · rw [hr, remapSide_of_le h.le]; rfl
  · rw [hr]; rfl
  · rw [hr, remapSide_of_gt h]; rfl

theorem exec_remapMagLow {raw : Byte} (h : raw.toNat ≤ 128) (s : State) :
    exec (.remapMagLow raw) s = .next (s.setMagnitude (magByte (remapMag raw))) := by
  rw [remapMag_of_le h]; rfl

theorem exec_remapMagHigh {raw : Byte} (h : 128 < raw.toNat) (s : State) :
    exec (.remapMagHigh raw) s = .next (s.setMagnitude (magByte (remapMag raw))) := by
  rw [remapMag_of_gt h]; rfl

theorem exec_magRow (raw : Byte) (s : State) :
    exec (magRow raw) s = .next (s.setMagnitude (magByte (remapMag raw))) := by
  rcases magRow_cases raw with ⟨h, hr⟩ | ⟨rfl, hr⟩ | ⟨h, hr⟩
  · rw [hr, exec_remapMagLow h.le]
  · rw [hr]; rfl
  · rw [hr, exec_remapMagHigh h]

/-! ### The command (R95) -/

/-- The two remaps are independent: each writes its own two ports. -/
theorem execAll_steerRow_thrustRow (a b : Byte) (s : State) :
    execAll [steerRow b, thrustRow a] s = execAll [thrustRow a, steerRow b] s := by
  rw [execAll_cons_of_next (exec_steerRow b s), execAll_cons_of_next (exec_thrustRow a _),
    execAll_cons_of_next (exec_thrustRow a s), execAll_cons_of_next (exec_steerRow b _)]
  rfl

@[simp] theorem actuate_thrustMagnitude (cs : ControlState) :
    (actuate cs).thrustMagnitude = magByte (remapMag cs.leftStickY) := rfl
@[simp] theorem actuate_thrustDirection (cs : ControlState) :
    (actuate cs).thrustDirection = thrustDirection cs.leftStickY := rfl
@[simp] theorem actuate_steerMagnitude (cs : ControlState) :
    (actuate cs).steerMagnitude = magByte (remapMag cs.rightStickX) := rfl
@[simp] theorem actuate_steerDirection (cs : ControlState) :
    (actuate cs).steerDirection = steerDirection cs.rightStickX := rfl

/-! ### The magnitude as a function of its operand (R98) -/

/-- On the low side the magnitude falls as the operand rises. -/
theorem remapMag_le_of_le_low {a b : Byte} (hab : a.toNat ≤ b.toNat) (hb : b.toNat ≤ 128) :
    remapMag b ≤ remapMag a := by
  rw [remapMag_of_le hb, remapMag_of_le (hab.trans hb)]
  gcongr

/-- On the high side it rises with the operand. -/
theorem remapMag_le_of_le_high {a b : Byte} (ha : 129 ≤ a.toNat) (hab : a.toNat ≤ b.toNat) :
    remapMag a ≤ remapMag b := by
  rw [remapMag_of_gt (Nat.lt_of_succ_le ha), remapMag_of_gt (Nat.lt_of_succ_le (ha.trans hab))]
  gcongr

theorem remapMag_eq_zero_iff (raw : Byte) : remapMag raw = 0 ↔ raw.toNat = 128 ∨ raw.toNat = 129 := by
  rcases Nat.lt_or_ge 128 raw.toNat with h | h
  · rw [remapMag_of_gt h]; omega
  · rw [remapMag_of_le h]; omega

theorem remapMag_eq_max_iff (raw : Byte) : remapMag raw = 255 ↔ raw.toNat = 0 ∨ raw.toNat = 255 := by
  have := raw.isLt
  rcases Nat.lt_or_ge 128 raw.toNat with h | h
  · rw [remapMag_of_gt h]; omega
  · rw [remapMag_of_le h]; omega

/-! ### The product in a 15-bit register (R88) -/

/-- The product of a distance of at most 128 and 255 does not wrap in 15 bits. -/
theorem toNat_product15 {d : Nat} (h : d ≤ 128) : (BitVec.ofNat 15 d * BitVec.ofNat 15 255).toNat = d * 255 := by
  rw [← BitVec.ofNat_mul, BitVec.toNat_ofNat, Nat.mod_eq_of_lt (by omega)]

/-! ### The printed table and its check sums (R96) -/

/-- Each printed row holds the sixteen magnitudes from its first operand on. -/
theorem magnitudeRow_eq_map :
    ∀ k < 16, magnitudeRow k = (List.range 16).map fun j => remapMag (BitVec.ofNat 8 (16 * k + j)) := by
  decide

/-- The entry of an operand stands in the row of its high digit, at its low digit. -/
theorem magnitudeTable_eq (raw : Byte) : magnitudeTable raw = some (remapMag raw) := by
  have hrow : raw.toNat / 16 < 16 := Nat.div_lt_of_lt_mul raw.isLt
  have hcol : raw.toNat % 16 < 16 := Nat.mod_lt _ (by decide)
  rw [magnitudeTable, magnitudeRow_eq_map _ hrow, List.getElem?_map, List.getElem?_range hcol, Option.map_some,
    Nat.div_add_mod, BitVec.ofNat_toNat, BitVec.setWidth_eq]

theorem magnitudeSum_succ (n : Nat) : magnitudeSum (n + 1) = magnitudeSum n + remapMag (BitVec.ofNat 8 n) := rfl

/-- The low side's sum, over the odd numbers of R89. -/
theorem magnitudeSum_low {n : Nat} (h : n ≤ 128) : magnitudeSum n + n * n = 256 * n := by
  induction n with
  | zero => rfl
  | succ n ih =>
    have hraw : (BitVec.ofNat 8 n).toNat = n := Nat.mod_eq_of_lt (by omega)
    have hmag : remapMag (BitVec.ofNat 8 n) = 255 - 2 * n := by rw [remapMag_low (by omega), hraw]
    have hsum := ih (by omega)
    rw [magnitudeSum_succ, hmag]
    have hsq : (n + 1) * (n + 1) = n * n + 2 * n + 1 := by ring
    omega

/-- The low side and the centre. -/
theorem magnitudeSum_center : magnitudeSum 129 = 16384 := by
  have hlow : magnitudeSum 128 = 16384 := by simpa using magnitudeSum_low (le_refl 128)
  have hcenter : remapMag (BitVec.ofNat 8 128) = 0 := rfl
  rw [magnitudeSum_succ 128, hlow, hcenter]

/-- The high side's sum: `2 * d` for every distance, and `d / 42` by runs of 42. -/
theorem magnitudeSum_high {m : Nat} (h : m ≤ 127) :
    magnitudeSum (129 + m) + m + 21 * (m / 42) * (m / 42 + 1) = 16384 + m * m + m / 42 * m := by
  induction m with
  | zero => rw [magnitudeSum_center]
  | succ m ih =>
    have hraw : (BitVec.ofNat 8 (129 + m)).toNat = 129 + m := Nat.mod_eq_of_lt (by omega)
    have hmag : remapMag (BitVec.ofNat 8 (129 + m)) = 2 * m + m / 42 := by
      rw [remapMag_high (by omega), hraw, Nat.add_sub_cancel_left]
    have hsum := ih (by omega)
    rw [← Nat.add_assoc 129 m 1, magnitudeSum_succ, hmag]
    obtain hq | ⟨hq, hm⟩ : (m + 1) / 42 = m / 42 ∨ (m + 1) / 42 = m / 42 + 1 ∧ m + 1 = 42 * (m / 42 + 1) := by omega
    · rw [hq]; linear_combination hsum
    · rw [hq]; linear_combination hsum - hm

end Machine

/-- Settles O23: the order of the table gives the command, and the two remaps are independent. -/
theorem commandRowsInEitherOrderAreActuate : Obligations.CommandRowsInEitherOrderAreActuate := by
  unfold Obligations.CommandRowsInEitherOrderAreActuate
  intro cs s rows hperm
  rcases List.perm_pair.1 hperm with rfl | rfl
  · exact Machine.execAll_commandRows cs s
  · rw [Machine.execAll_steerRow_thrustRow]
    exact Machine.execAll_commandRows cs s

/-- Settles O17: the selected row writes the side of its operand; each row writes the side of its range. -/
theorem sideOfAnOperand : Obligations.SideOfAnOperand := by
  unfold Obligations.SideOfAnOperand
  refine ⟨?selected, ?low, ?mid, ?high⟩
  case selected => exact fun raw s => ⟨_, rfl, Machine.exec_sideRow raw s⟩
  case low => exact fun _ _ _ => rfl
  case mid => exact fun _ => rfl
  case high => exact fun _ _ _ => rfl

/-- Settles O18: the selected row writes `REMAP.MAG` of its operand, which fits the port. -/
theorem magnitudeOfAnOperand : Obligations.MagnitudeOfAnOperand := by
  unfold Obligations.MagnitudeOfAnOperand
  intro raw s
  refine ⟨_, _, rfl, Machine.exec_magRow raw s, rfl, ?_⟩
  rw [← Machine.remapMag_eq]
  exact Machine.toNat_magByte_remapMag raw

/-- Settles O19: each row writes `REMAP.MAG` of its operand, which has R89's closed form on the row's range. -/
theorem magnitudeRowsHaveTheirClosedForms : Obligations.MagnitudeRowsHaveTheirClosedForms := by
  unfold Obligations.MagnitudeRowsHaveTheirClosedForms
  refine ⟨?low, ?mid, ?high⟩
  case low =>
    intro raw s h
    rw [Machine.exec_remapMagLow (h.trans (by decide)), Machine.remapMag_low h]; rfl
  case mid => exact fun _ => rfl
  case high =>
    intro raw s h
    rw [Machine.exec_remapMagHigh (Nat.lt_of_succ_le h), Machine.remapMag_high h]; rfl

/-- Settles O22: `ACTUATE` writes the four command ports, with the codes of R93 and R94 and the magnitudes of R87. -/
theorem actuateInstruction : Obligations.ActuateInstruction := by
  unfold Obligations.ActuateInstruction
  intro cs s
  refine ⟨s.setData (s.data.setCommand (Machine.actuate cs)), rfl, ?ports, ?thrust, ?steer⟩
  case ports => rw [← Machine.thrustCode_thrustDirection, ← Machine.steerCode_steerDirection]; rfl
  case thrust => rw [← Machine.remapMag_eq]; exact Machine.toNat_magByte_remapMag cs.leftStickY
  case steer => rw [← Machine.remapMag_eq]; exact Machine.toNat_magByte_remapMag cs.rightStickX

/-- Settles O24, clause by clause from the laws of the magnitude. -/
theorem magnitudeProperties : Obligations.MagnitudeProperties := by
  unfold Obligations.MagnitudeProperties
  refine ⟨Machine.remapMag_le, fun _ _ => Machine.remapMag_le_of_le_low, fun _ _ => Machine.remapMag_le_of_le_high,
    Machine.remapMag_eq_zero_iff, Machine.remapMag_eq_max_iff, fun cs h => ?_⟩
  rw [Machine.actuate_thrustMagnitude, h, Machine.actuate_steerMagnitude]

/-- Settles O25: on each side the distance is at most 128, so its product with 255 fits 15 bits, and the quotient is between
0 and 255 before any clamp. -/
theorem magnitudeArithmetic : Obligations.MagnitudeArithmetic := by
  unfold Obligations.MagnitudeArithmetic
  refine ⟨fun raw h => ?low, fun raw h => ?high⟩
  case low =>
    rw [BitVec.toNat_ushiftRight, Machine.toNat_product15 (by omega), Nat.shiftRight_eq_div_pow,
      Machine.remapMag_of_le h]
    exact ⟨by omega, rfl, by omega⟩
  case high =>
    have := raw.isLt
    rw [Machine.toNat_product15 (by omega), Machine.remapMag_of_gt (Nat.lt_of_succ_le h)]
    exact ⟨by omega, rfl, by omega⟩

/-- Settles O26: the pinned operands are evaluated, and a command depends on its two axes alone. -/
theorem pinnedPoints : Obligations.PinnedPoints := by
  unfold Obligations.PinnedPoints
  refine ⟨⟨rfl, rfl⟩, ⟨rfl, rfl, rfl, rfl⟩, ⟨rfl, rfl⟩, ⟨rfl, rfl⟩, rfl, fun cs h => ?steerRight,
    fun cs h => ?thrustForward⟩
  case steerRight => rw [Machine.actuate_steerDirection, Machine.actuate_steerMagnitude, h]; exact ⟨rfl, rfl⟩
  case thrustForward => rw [Machine.actuate_thrustDirection, Machine.actuate_thrustMagnitude, h]; exact ⟨rfl, rfl⟩

/-- Settles O27: the table row by row, and the check sums as the sums of R89's closed forms. -/
theorem magnitudeTableIsTheFormula : Obligations.MagnitudeTableIsTheFormula := by
  unfold Obligations.MagnitudeTableIsTheFormula
  have hall : Machine.magnitudeSum 256 = 32515 := by simpa using Machine.magnitudeSum_high (le_refl 127)
  refine ⟨Machine.magnitudeTable_eq, Machine.magnitudeSum_center, hall, ?_⟩
  rw [hall, Machine.magnitudeSum_center]

end Sys2Proof
end

section
/-! The sample step (42_sample_step.md R105 to R113): what its rows leave, which row a presented reader result performs,
and that a run hands back `SAMPLE` of its reader results, one a step. -/

namespace Sys2Proof
namespace Machine

/-! ### A run, one reader result a step (R110, R113) -/

/-- The outcome at hand after `k + 1` steps of a run is `SAMPLE` of its `k`-th reader result: by induction on the run,
whose first step leaves a state at the start of the run of the others. -/
theorem run_outcome_eq_sample (s : State) (run : List (List Byte)) (k : Nat) (bytes : List Byte)
    (hshort : ∀ b ∈ run, b.length ≤ 8) (hk : run[k]? = some bytes) :
    ∃ t : State, Host.Core.run Sys2Proof.core (k + 1) (s.withRun run) = .next t ∧ t.outcome = some (sample bytes) := by
  induction run generalizing s k with
  | nil => simp at hk
  | cons b bs ih =>
    obtain ⟨hb, hbs⟩ := List.forall_mem_cons.1 hshort
    obtain ⟨t, hstep, hout⟩ := step_withRun_cons s bs hb
    cases k with
    | zero =>
      obtain rfl : b = bytes := by simpa using hk
      exact ⟨t.withRun bs, core_run_next 0 _ _ hstep, hout⟩
    | succ k =>
      obtain ⟨u, hrun, hsample⟩ := ih t k hbs (by simpa using hk)
      exact ⟨u, (core_run_next (k + 1) _ _ hstep).trans hrun, hsample⟩

/-! ### The rows that complete (R108, R121) -/

theorem exec_sampleOk (f : Frame) (s : State) : exec (.sampleOk f) s = .next (sampledState s f) := rfl

theorem exec_sampleIncomplete (len : Len) (s : State) :
    exec (.sampleIncomplete len) s = .next (s.raiseIncompleteFrame len) := rfl

@[simp] theorem sampledState_outValid (s : State) (f : Frame) : (sampledState s f).outValid = true := rfl
@[simp] theorem sampledState_errIncomplete (s : State) (f : Frame) : (sampledState s f).errIncomplete = false := rfl

/-! ### The row that a step performs (R105, R111) -/

/-- With a reader result presented, the step is the `SAMPLE` row of `len` and the frame on the port. -/
theorem step_of_presented {s : State} (hv : s.inValid = true) :
    step s = finish (exec (sampleRow s.len (Memory.toFrame s.frame)) s) := by
  simp [step, fetch_eq, hv]

/-- With reader bytes driven on the ports, it is the row of those bytes, which the port gives back (R19, R26). -/
theorem step_drive_ofReader_eq (s : State) (bytes : List Byte) :
    step (s.drive (PortIn.ofReader bytes)) =
      finish (exec (sampleRow (lenCode bytes.length) (frameOfBytes bytes)) (s.drive (PortIn.ofReader bytes))) := by
  rw [step_of_presented rfl, State.drive_len, State.drive_frame, Memory.toFrame_ofFrame]
  rfl

/-- The reader's decoder answers the `SAMPLE` row and no other. -/
theorem eq_sampleRow_of_decode {bytes : List Byte} {i : Instr} (h : decode bytes = .ok i) :
    i = sampleRow (lenCode bytes.length) (frameOfBytes bytes) :=
  (Except.ok.inj h).symm

theorem wellFormed_sampleRow (len : Len) (f : Frame) : WellFormed (sampleRow len f) :=
  (answersByTable_sampleRow len f).wellFormed

/-! ### The next input (log 1) -/

theorem State.presentNext_of_nil {s : State} (h : s.upcoming = []) : s.presentNext = s.drive PortIn.nothing := by
  rw [State.presentNext, h]

theorem State.presentNext_of_cons {s : State} {p : PortIn} {rest : List PortIn} (h : s.upcoming = p :: rest) :
    s.presentNext = { s.drive p with upcoming := rest } := by
  rw [State.presentNext, h]

/-! ### The strobes of a completed step (R108, R109, R129) -/

/-- Three kinds of step complete, and `in_valid` and `len` tell them apart. -/
theorem strobes_of_step {s t : State} (h : step s = .next t) :
    t.outValid = outValidOf s.inValid s.len ∧ t.errIncomplete = errIncompleteOf s.inValid s.len := by
  rcases step_cases s with ⟨hv, hs⟩ | ⟨hv, hl, hs⟩ | ⟨hv, hl, hs⟩ | ⟨_, _, hs⟩
  all_goals rw [hs] at h; cases h
  · simp [outValidOf, errIncompleteOf, hv]
  · simp [outValidOf, errIncompleteOf, hv, hl]
  · simp [outValidOf, errIncompleteOf, hv, hl, Nat.ne_of_lt hl]

end Machine

/-- Settles O40, by `run_outcome_eq_sample`. -/
theorem runIsTheMapOfSample : Obligations.RunIsTheMapOfSample := by
  unfold Obligations.RunIsTheMapOfSample
  exact Machine.run_outcome_eq_sample

/-- Settles O28: the axis bytes are slices by definition, the button ports are slices of the frame, and the directions
of the two remaps have the codes of R49. -/
theorem sampleOkInstruction : Obligations.SampleOkInstruction := by
  unfold Obligations.SampleOkInstruction
  intro f s
  rw [Machine.exec_sampleOk, ← Machine.faceCode_faceValue, ← Machine.shoulderCode_shoulderValue,
    ← Machine.menuCode_menuValue, ← Machine.thrustCode_thrustDirection, ← Machine.steerCode_steerDirection]
  rfl

/-- Settles O29: the row raises `IncompleteFrame`, which writes the strobes, the length and the data ports alone. -/
theorem sampleIncompleteInstruction : Obligations.SampleIncompleteInstruction := by
  unfold Obligations.SampleIncompleteInstruction
  exact fun len s _ => ⟨s.raiseIncompleteFrame len, Machine.exec_sampleIncomplete len s, rfl⟩

/-- Settles O32: the row of the ports is the row of the bytes driven there, and `finish` is the match of the statement. -/
theorem stepRunsTheDecodedInstruction : Obligations.StepRunsTheDecodedInstruction := by
  unfold Obligations.StepRunsTheDecodedInstruction
  refine ⟨?ports, ?reader, ?next⟩
  case ports =>
    intro s f hvalid hread
    obtain rfl : Machine.Memory.toFrame s.frame = f := by simpa using hread
    exact ⟨Machine.wellFormed_sampleRow s.len _, Machine.step_of_presented hvalid⟩
  case reader =>
    intro s bytes i hdecode
    obtain rfl := Machine.eq_sampleRow_of_decode hdecode
    exact ⟨Machine.wellFormed_sampleRow _ _, Machine.step_drive_ofReader_eq s bytes⟩
  case next =>
    exact fun s => ⟨Machine.State.presentNext_of_nil, fun _ _ h => Machine.State.presentNext_of_cons h⟩

/-- Settles O35: both strobes go down, and no length is recorded from which an outcome could come. -/
theorem stepWithNothingPresented : Obligations.StepWithNothingPresented := by
  unfold Obligations.StepWithNothingPresented
  intro s hvalid
  refine ⟨_, Machine.step_of_nothing_presented hvalid, ?_⟩
  simp [Machine.driveNothing_outcome]

/-- Settles O36, by `strobes_of_step`. -/
theorem strobesFollowTheInputPorts : Obligations.StrobesFollowTheInputPorts := by
  unfold Obligations.StrobesFollowTheInputPorts
  exact fun _ _ h => Machine.strobes_of_step h

end Sys2Proof
end

section
/-! The two reads that give no result pair (60_exceptions.md R121, R122, R127): the long one stops at its row, the short
one completes with the error and nothing else. -/

namespace Sys2Proof
namespace Machine

/-- The row of a long read has no next state (R122). -/
theorem exec_sampleRefused (len : Len) (s : State) : exec (.sampleRefused len) s = .refused (.overlongRead len) := rfl

end Machine

/-- Settles O30: the row is the refusal for every `len` and in every state, so also for the lengths of R122. -/
theorem sampleRefusedInstruction : Obligations.SampleRefusedInstruction := by
  unfold Obligations.SampleRefusedInstruction
  exact fun len s _ => Machine.exec_sampleRefused len s

/-- Settles O34: the step raises the error, which takes `out_valid` down, and with it both parts of the pair. -/
theorem shortReadIsTheErrorAlone : Obligations.ShortReadIsTheErrorAlone := by
  unfold Obligations.ShortReadIsTheErrorAlone
  intro s hvalid hshort
  have hout : (s.raiseIncompleteFrame s.len).presentNext.outValid = false := by simp
  exact ⟨_, Machine.step_of_short_read hvalid hshort, hout, by simp,
    Machine.State.controlState?_eq_none hout, Machine.State.command?_eq_none hout,
    (Machine.State.presentNext_outcome _).trans (Machine.raiseIncompleteFrame_outcome s s.len)⟩

end Sys2Proof
end
